-- ==== Sys2Proof/Word.lean ====
section
/-! DEFINITION. The plain words of the LB-4: bytes, line time, and the indices of stations, ports, banks and watch counters. -/

namespace Sys2Proof

/-- One byte of a station link or of the configuration image. -/
abbrev Byte := BitVec 8

/-- Line time and everything compared with it: a 32-bit count of seconds that wraps (R1). -/
abbrev LineTime := BitVec 32

/-- A station index, 0 to 3 (R3). -/
abbrev StationId := Fin 4

/-- A port index, 0 to 3. Station s is served by port s. -/
abbrev PortId := Fin 4

/-- A calibration bank number, 0 to 3 (R27). -/
abbrev BankId := Fin 4

/-- A watch counter index, 0 to 7 (R143). -/
abbrev WatchId := Fin 8

end Sys2Proof
end

