-- ==== Sys2Proof/Syntax.lean ====
section
/-! DEFINITION. The commands of the LB-4: one constructor of `Instr` per row of spec/opcode_table.json. -/

namespace Sys2Proof

/-- A segment number, 1 to 3: segment k runs from station k-1 to station k (R8). -/
inductive SegId where
  | one
  | two
  | three
deriving DecidableEq, Repr

/-- A span id, 1 to 3: a span is named by its downstream end station, as a segment is (R10). -/
abbrev SpanId := SegId

/-- The bank record as a frame or the image carries it, 10 bytes (R186). -/
structure BankWire where
  rhoW : BitVec 16
  rhoS : BitVec 16
  cMax : BitVec 16
  deltaW : BitVec 8
  kQ : BitVec 16
  mode : BitVec 8
deriving DecidableEq, Repr

/-- The settings record as a frame or the image carries it, 22 bytes (R186). -/
structure SettingsWire where
  length : BitVec 16
  dPipe : BitVec 16
  vC : BitVec 16
  tLeak : BitVec 32
  tDrift : BitVec 32
  tDep : BitVec 32
  m : BitVec 16
  nS : BitVec 8
  nC : BitVec 8
deriving DecidableEq, Repr

/-- The fields of WATCH_SET after its index (R187): the masks in one byte, the options in one byte. -/
structure WatchWire where
  source : BitVec 8
  filter : BitVec 8
  masks : BitVec 8
  mode : BitVec 8
  threshold : BitVec 32
  options : BitVec 8
  preload : BitVec 48
deriving DecidableEq, Repr

/-- A request frame of known kind and allowed length, with its fields (R187). -/
inductive Request where
  | status
  | stationIn
  | stationOut
  | reading (vRaw t rhoM : BitVec 16) (flush fault : Bool)
  | resolveAnswer (tag : BitVec 8) (mAns : BitVec 32)
  | bankWrite (bank : BitVec 8) (record : BankWire)
  | bankSelect (bank : BitVec 8)
  | bankRead (station bank : BitVec 8)
  | spanOpen (span : BitVec 8) (cFill : BitVec 16)
  | spanClose (span : BitVec 8)
  | spanRead (span : BitVec 8)
  | parcelList (span : BitVec 8) (start : BitVec 16) (count : BitVec 8)
  | verdictClear (span : BitVec 8)
  | settingsPropose (segment : BitVec 8) (record : SettingsWire)
  | settingsAgree (segment : BitVec 8) (record : SettingsWire)
  | settingsWithdraw (segment : BitVec 8)
  | settingsRead (segment : BitVec 8)
  | watchClaim
  | watchSet (index : BitVec 8) (record : WatchWire)
  | watchRead (index : BitVec 8)
  | watchRelease (index : BitVec 8)
  | watchFreeze
  | watchThaw
  | noticeGet
deriving DecidableEq, Repr

/-- The commands, one per row of the opcode table. A request row is the completion, at its port, of a frame of that
kind with a matching check and the kind's length (R166, R167; log entry 3). -/
inductive Instr where
  | reset
  | imageReadComplete (image : List Byte)
  | lineTimeTick
  | silenceExpiry (station : StationId)
  | resolveExpiry (station : StationId)
  | agreementExpiry (segment : SegId)
  | holdExpiry (span : SpanId)
  | tripFallingEdge (port : PortId)
  | tripRelease (port : PortId)
  | frameGap (port : PortId)
  | framingError (port : PortId)
  | frameDiscard (port : PortId)
  | frameUnanswered (port : PortId)
  | unknownKind (port : PortId) (kind : Byte)
  | portRestart (port : PortId)
  | replySent (port : PortId)
  | status (port : PortId)
  | stationIn (port : PortId)
  | stationOut (port : PortId)
  | reading (port : PortId) (vRaw t rhoM : BitVec 16) (flush fault : Bool)
  | resolveAnswer (port : PortId) (tag : BitVec 8) (mAns : BitVec 32)
  | bankWrite (port : PortId) (bank : BitVec 8) (record : BankWire)
  | bankSelect (port : PortId) (bank : BitVec 8)
  | bankRead (port : PortId) (station bank : BitVec 8)
  | grant
  | spanOpen (port : PortId) (span : BitVec 8) (cFill : BitVec 16)
  | spanClose (port : PortId) (span : BitVec 8)
  | spanRead (port : PortId) (span : BitVec 8)
  | parcelList (port : PortId) (span : BitVec 8) (start : BitVec 16) (count : BitVec 8)
  | verdictClear (port : PortId) (span : BitVec 8)
  | settingsPropose (port : PortId) (segment : BitVec 8) (record : SettingsWire)
  | settingsAgree (port : PortId) (segment : BitVec 8) (record : SettingsWire)
  | settingsWithdraw (port : PortId) (segment : BitVec 8)
  | settingsRead (port : PortId) (segment : BitVec 8)
  | watchClaim (port : PortId)
  | watchSet (port : PortId) (index : BitVec 8) (record : WatchWire)
  | watchRead (port : PortId) (index : BitVec 8)
  | watchRelease (port : PortId) (index : BitVec 8)
  | watchFreeze (port : PortId)
  | watchThaw (port : PortId)
  | noticeGet (port : PortId)
  | byteReceived (port : PortId) (byte : Byte)
  | returnToMark (port : PortId)
deriving DecidableEq, Repr

end Sys2Proof
end

