-- ==== Sys2Proof/Decode.lean ====
section
/-! DEFINITION. Request frames and their payload layouts (R186, R187), in both directions, and the host's word decoder.
The opcode table gives no row any bits, so no word spells a command (log entry 2). -/

namespace Sys2Proof

/-- The little-endian value of a run of bytes (R186). -/
def leNat : List Byte → Nat
  | [] => 0
  | b :: bs => b.toNat + 256 * leNat bs

/-- `n` bytes of `x`, least significant first (R186). -/
def leBytes : Nat → Nat → List Byte
  | 0, _ => []
  | n + 1, x => BitVec.ofNat 8 x :: leBytes n (x / 256)

/-- The `n`-byte field at an offset of a payload, as a bit vector of `8 * n` bits or of any width given. -/
def fieldAt (w : Nat) (bytes : List Byte) (offset n : Nat) : BitVec w :=
  BitVec.ofNat w (leNat ((bytes.drop offset).take n))

/-- The settings record at an offset: L, D_pipe, v_c, T_leak, T_drift, T_dep, m, N_s, N_c (R186). -/
def settingsAt (bytes : List Byte) (offset : Nat) : SettingsWire where
  length := fieldAt 16 bytes offset 2
  dPipe := fieldAt 16 bytes (offset + 2) 2
  vC := fieldAt 16 bytes (offset + 4) 2
  tLeak := fieldAt 32 bytes (offset + 6) 4
  tDrift := fieldAt 32 bytes (offset + 10) 4
  tDep := fieldAt 32 bytes (offset + 14) 4
  m := fieldAt 16 bytes (offset + 18) 2
  nS := fieldAt 8 bytes (offset + 20) 1
  nC := fieldAt 8 bytes (offset + 21) 1

/-- The bank record at an offset: rho_w, rho_s, c_max, delta_w, k_q, mode (R186). -/
def bankAt (bytes : List Byte) (offset : Nat) : BankWire where
  rhoW := fieldAt 16 bytes offset 2
  rhoS := fieldAt 16 bytes (offset + 2) 2
  cMax := fieldAt 16 bytes (offset + 4) 2
  deltaW := fieldAt 8 bytes (offset + 6) 1
  kQ := fieldAt 16 bytes (offset + 7) 2
  mode := fieldAt 8 bytes (offset + 9) 1

/-- The WATCH_SET fields at an offset (R187). -/
def watchAt (bytes : List Byte) (offset : Nat) : WatchWire where
  source := fieldAt 8 bytes offset 1
  filter := fieldAt 8 bytes (offset + 1) 1
  masks := fieldAt 8 bytes (offset + 2) 1
  mode := fieldAt 8 bytes (offset + 3) 1
  threshold := fieldAt 32 bytes (offset + 4) 4
  options := fieldAt 8 bytes (offset + 8) 1
  preload := fieldAt 48 bytes (offset + 9) 6

/-- The 22 bytes of a settings record. -/
def SettingsWire.bytes (r : SettingsWire) : List Byte :=
  leBytes 2 r.length.toNat ++ leBytes 2 r.dPipe.toNat ++ leBytes 2 r.vC.toNat ++ leBytes 4 r.tLeak.toNat ++
    leBytes 4 r.tDrift.toNat ++ leBytes 4 r.tDep.toNat ++ leBytes 2 r.m.toNat ++ [r.nS, r.nC]

/-- The 10 bytes of a bank record. -/
def BankWire.bytes (r : BankWire) : List Byte :=
  leBytes 2 r.rhoW.toNat ++ leBytes 2 r.rhoS.toNat ++ leBytes 2 r.cMax.toNat ++ [r.deltaW] ++
    leBytes 2 r.kQ.toNat ++ [r.mode]

/-- The 15 bytes of the WATCH_SET fields after the index. -/
def WatchWire.bytes (r : WatchWire) : List Byte :=
  [r.source, r.filter, r.masks, r.mode] ++ leBytes 4 r.threshold.toNat ++ [r.options] ++ leBytes 6 r.preload.toNat

/-- The payload length that each request kind allows (R187); none for a byte that is no request kind. -/
def payloadLength (kind : Byte) : Option Nat :=
  match kind.toNat with
  | 0x01 => some 0
  | 0x02 => some 0
  | 0x03 => some 0
  | 0x10 => some 7
  | 0x11 => some 5
  | 0x18 => some 11
  | 0x19 => some 1
  | 0x1A => some 2
  | 0x20 => some 3
  | 0x21 => some 1
  | 0x22 => some 1
  | 0x23 => some 4
  | 0x24 => some 1
  | 0x30 => some 23
  | 0x31 => some 23
  | 0x32 => some 1
  | 0x33 => some 1
  | 0x40 => some 0
  | 0x41 => some 16
  | 0x42 => some 1
  | 0x43 => some 1
  | 0x44 => some 0
  | 0x45 => some 0
  | 0x50 => some 0
  | _ => none

/-- Whether a byte is a request kind of the formats chapter (R167, R187). -/
def isRequestKind (kind : Byte) : Bool := (payloadLength kind).isSome

/-- The request that a kind and a payload of its length carry (R187). Unnamed bits of READING's flag byte are
ignored (R186). -/
def parseRequest (kind : Byte) (d : List Byte) : Option Request :=
  match kind.toNat with
  | 0x01 => some .status
  | 0x02 => some .stationIn
  | 0x03 => some .stationOut
  | 0x10 =>
    some (.reading (fieldAt 16 d 0 2) (fieldAt 16 d 2 2) (fieldAt 16 d 4 2)
      ((fieldAt 8 d 6 1).getLsbD 0) ((fieldAt 8 d 6 1).getLsbD 1))
  | 0x11 => some (.resolveAnswer (fieldAt 8 d 0 1) (fieldAt 32 d 1 4))
  | 0x18 => some (.bankWrite (fieldAt 8 d 0 1) (bankAt d 1))
  | 0x19 => some (.bankSelect (fieldAt 8 d 0 1))
  | 0x1A => some (.bankRead (fieldAt 8 d 0 1) (fieldAt 8 d 1 1))
  | 0x20 => some (.spanOpen (fieldAt 8 d 0 1) (fieldAt 16 d 1 2))
  | 0x21 => some (.spanClose (fieldAt 8 d 0 1))
  | 0x22 => some (.spanRead (fieldAt 8 d 0 1))
  | 0x23 => some (.parcelList (fieldAt 8 d 0 1) (fieldAt 16 d 1 2) (fieldAt 8 d 3 1))
  | 0x24 => some (.verdictClear (fieldAt 8 d 0 1))
  | 0x30 => some (.settingsPropose (fieldAt 8 d 0 1) (settingsAt d 1))
  | 0x31 => some (.settingsAgree (fieldAt 8 d 0 1) (settingsAt d 1))
  | 0x32 => some (.settingsWithdraw (fieldAt 8 d 0 1))
  | 0x33 => some (.settingsRead (fieldAt 8 d 0 1))
  | 0x40 => some .watchClaim
  | 0x41 => some (.watchSet (fieldAt 8 d 0 1) (watchAt d 1))
  | 0x42 => some (.watchRead (fieldAt 8 d 0 1))
  | 0x43 => some (.watchRelease (fieldAt 8 d 0 1))
  | 0x44 => some .watchFreeze
  | 0x45 => some .watchThaw
  | 0x50 => some .noticeGet
  | _ => none

/-- The kind byte of a request (R187). -/
def Request.kind : Request → Byte
  | .status => 0x01
  | .stationIn => 0x02
  | .stationOut => 0x03
  | .reading _ _ _ _ _ => 0x10
  | .resolveAnswer _ _ => 0x11
  | .bankWrite _ _ => 0x18
  | .bankSelect _ => 0x19
  | .bankRead _ _ => 0x1A
  | .spanOpen _ _ => 0x20
  | .spanClose _ => 0x21
  | .spanRead _ => 0x22
  | .parcelList _ _ _ => 0x23
  | .verdictClear _ => 0x24
  | .settingsPropose _ _ => 0x30
  | .settingsAgree _ _ => 0x31
  | .settingsWithdraw _ => 0x32
  | .settingsRead _ => 0x33
  | .watchClaim => 0x40
  | .watchSet _ _ => 0x41
  | .watchRead _ => 0x42
  | .watchRelease _ => 0x43
  | .watchFreeze => 0x44
  | .watchThaw => 0x45
  | .noticeGet => 0x50

/-- The flag byte of READING: bit 0 flush, bit 1 fault (R187). -/
def readingFlagByte (flush fault : Bool) : Byte :=
  BitVec.ofNat 8 (flush.toNat + 2 * fault.toNat)

/-- The payload bytes of a request, in the order of R187. -/
def Request.payload : Request → List Byte
  | .status | .stationIn | .stationOut => []
  | .reading v t rho fl fa =>
    leBytes 2 v.toNat ++ leBytes 2 t.toNat ++ leBytes 2 rho.toNat ++ [readingFlagByte fl fa]
  | .resolveAnswer tag mAns => tag :: leBytes 4 mAns.toNat
  | .bankWrite bank r => bank :: r.bytes
  | .bankSelect bank => [bank]
  | .bankRead station bank => [station, bank]
  | .spanOpen j c => j :: leBytes 2 c.toNat
  | .spanClose j | .spanRead j | .verdictClear j => [j]
  | .parcelList j p c => j :: leBytes 2 p.toNat ++ [c]
  | .settingsPropose k r | .settingsAgree k r => k :: r.bytes
  | .settingsWithdraw k | .settingsRead k => [k]
  | .watchClaim | .watchFreeze | .watchThaw | .noticeGet => []
  | .watchSet i r => i :: r.bytes
  | .watchRead i | .watchRelease i => [i]

/-- One bit of the link check: polynomial x^16 + x^12 + x^5 + 1, most significant bit first (R166). -/
def crc16Bit (c : BitVec 16) : BitVec 16 :=
  if c.msb then (c <<< 1) ^^^ 0x1021#16 else c <<< 1

/-- One byte taken into the link check (R166). -/
def crc16Byte (c : BitVec 16) (b : Byte) : BitVec 16 :=
  Nat.repeat crc16Bit 8 (c ^^^ (b.setWidth 16 <<< 8))

/-- The initial value of the link check (R166). -/
def crc16Init : BitVec 16 := 0xFFFF#16

/-- The link check over a run of bytes (R166). -/
def crc16 (bytes : List Byte) : BitVec 16 := bytes.foldl crc16Byte crc16Init

/-- The sync byte of every frame (R186). -/
def syncByte : Byte := 0xC5#8

/-- A frame around a kind byte and a payload: SYNC, LEN, KIND, PAYLOAD, CHECK low byte first (R164, R166, R186). -/
def frameOf (kind : Byte) (payload : List Byte) : List Byte :=
  let len : Byte := BitVec.ofNat 8 (payload.length + 1)
  let check := crc16 (len :: kind :: payload)
  syncByte :: len :: kind :: payload ++ [check.setWidth 8, (check >>> 8).setWidth 8]

/-- The frame of a request. -/
def Request.frame (r : Request) : List Byte := frameOf r.kind r.payload

/-- The command that a word spells by the opcode table's bits. The table gives no row any bits (log entry 2). -/
def decodeTableWord (_nbits _w : Nat) : Option Instr := none

end Sys2Proof
end

