-- ==== Sys2Proof/Machine/State.lean ====
section
/-! DEFINITION. The state of the LB-4 as plain data, its reset value, and the reasons a step could stop. -/

namespace Sys2Proof.Machine

/-- One value for each of the four stations, ports or banks. -/
structure Quad (α : Type) where
  p0 : α
  p1 : α
  p2 : α
  p3 : α
deriving DecidableEq, Repr

/-- The entry of an index. -/
def Quad.get {α : Type} (q : Quad α) (i : Fin 4) : α :=
  match i with
  | 0 => q.p0
  | 1 => q.p1
  | 2 => q.p2
  | 3 => q.p3

/-- The same with one entry replaced. -/
def Quad.set {α : Type} (q : Quad α) (i : Fin 4) (a : α) : Quad α :=
  match i with
  | 0 => { q with p0 := a }
  | 1 => { q with p1 := a }
  | 2 => { q with p2 := a }
  | 3 => { q with p3 := a }

/-- The same value at every index. -/
def Quad.fill {α : Type} (a : α) : Quad α := ⟨a, a, a, a⟩

/-- One value for each of the eight watch counters. -/
structure Octet (α : Type) where
  w0 : α
  w1 : α
  w2 : α
  w3 : α
  w4 : α
  w5 : α
  w6 : α
  w7 : α
deriving DecidableEq, Repr

/-- The entry of an index. -/
def Octet.get {α : Type} (o : Octet α) (i : Fin 8) : α :=
  match i with
  | 0 => o.w0
  | 1 => o.w1
  | 2 => o.w2
  | 3 => o.w3
  | 4 => o.w4
  | 5 => o.w5
  | 6 => o.w6
  | 7 => o.w7

/-- The same with one entry replaced. -/
def Octet.set {α : Type} (o : Octet α) (i : Fin 8) (a : α) : Octet α :=
  match i with
  | 0 => { o with w0 := a }
  | 1 => { o with w1 := a }
  | 2 => { o with w2 := a }
  | 3 => { o with w3 := a }
  | 4 => { o with w4 := a }
  | 5 => { o with w5 := a }
  | 6 => { o with w6 := a }
  | 7 => { o with w7 := a }

/-- A function applied to every entry. -/
def Octet.map {α : Type} (f : α → α) (o : Octet α) : Octet α :=
  ⟨f o.w0, f o.w1, f o.w2, f o.w3, f o.w4, f o.w5, f o.w6, f o.w7⟩

/-- The same value at every index. -/
def Octet.fill {α : Type} (a : α) : Octet α := ⟨a, a, a, a, a, a, a, a⟩

/-- One value for each of the three segments or spans. -/
structure Trio (α : Type) where
  s1 : α
  s2 : α
  s3 : α
deriving DecidableEq, Repr

/-- The entry of a segment or span number. -/
def Trio.get {α : Type} (t : Trio α) (k : SegId) : α :=
  match k with
  | .one => t.s1
  | .two => t.s2
  | .three => t.s3

/-- The same with one entry replaced. -/
def Trio.set {α : Type} (t : Trio α) (k : SegId) (a : α) : Trio α :=
  match k with
  | .one => { t with s1 := a }
  | .two => { t with s2 := a }
  | .three => { t with s3 := a }

/-- The same value at every number. -/
def Trio.fill {α : Type} (a : α) : Trio α := ⟨a, a, a⟩

/-- The level of a line. -/
inductive Level where
  | low
  | high
deriving DecidableEq, Repr

/-- The configuration state of the part (R163, R180, R183, R185). -/
inductive ConfigState where
  | loading
  | configured
  | unconfigured
deriving DecidableEq, Repr

/-- The service state of a station index (R3). -/
inductive ServiceState where
  | out
  | inService
  | stale
  | unused
deriving DecidableEq, Repr

/-- The class of a converted reading (R33, R34). -/
inductive ReadingClass where
  | idle
  | flush
  | fault
  | low
  | water
  | slurry
  | high
deriving DecidableEq, Repr

/-- What a bank does with an out-of-range reading (R27, R37, R39). -/
inductive BankMode where
  | refer
  | limit
deriving DecidableEq, Repr

/-- The state of a present span (R13 to R18). OPEN is `opened`. -/
inductive SpanState where
  | closed
  | opened
  | suspended
deriving DecidableEq, Repr

/-- The finding of a span (R119). -/
inductive Verdict where
  | blind
  | normal
  | leakSuspect
  | leak
  | depositSuspect
  | deposit
  | drift
deriving DecidableEq, Repr

/-- The event of a SPAN notice (R186). -/
inductive SpanEvent where
  | opened
  | closed
  | suspended
  | resumed
  | merged
  | split
  | newEpoch
deriving DecidableEq, Repr

/-- The event of a SETTINGS notice (R142). -/
inductive SettingsEvent where
  | proposed
  | applied
  | expired
  | withdrawn
deriving DecidableEq, Repr

/-- The outcome a DONE to SETTINGS_PROPOSE names (R132). -/
inductive ProposalOutcome where
  | recorded
  | replaced
  | applied
deriving DecidableEq, Repr

/-- The kind of sample a watch counter takes (R143, R152). -/
inductive WatchSource where
  | updateDeficit
  | updateExcess
  | occupancy
  | updates
  | shortfall
  | exitAge
  | exitSolids
  | inflowVelocity
  | reclaims
  | resolves
deriving DecidableEq, Repr

/-- How a sample moves a watch counter (R143, R155). -/
inductive WatchMode where
  | add
  | atLeast
  | below
  | onsets
deriving DecidableEq, Repr

/-- The link rates of R163, in bit/s. -/
inductive LinkRate where
  | r19200
  | r38400
  | r57600
  | r115200
  | r230400
  | r460800
  | r921600
deriving DecidableEq, Repr

/-- The seven flags of a parcel (R52). A reading's result carries a subset of WATER, FLUSH, ESTIMATED, REFERRED
(R23). -/
structure Flags where
  prime : Bool
  water : Bool
  flush : Bool
  estimated : Bool
  referred : Bool
  coalesced : Bool
  transient : Bool
deriving DecidableEq, Repr

/-- No flag set. -/
def Flags.none : Flags := ⟨false, false, false, false, false, false, false⟩

/-- A calibration bank (R27). -/
structure Bank where
  rhoW : Nat
  rhoS : Nat
  cMax : Nat
  deltaW : Nat
  kQ : Nat
  mode : BankMode
deriving DecidableEq, Repr

/-- A last-good composition: a solids fraction and a solids density (R38). -/
structure Composition where
  cBp : Nat
  rhoS : Nat
deriving DecidableEq, Repr

/-- A conversion result, less M (R23). -/
structure Conversion where
  v : Nat
  tC : Nat
  cls : ReadingClass
  cBp : Option Nat
  flags : Flags
deriving DecidableEq, Repr

/-- The state of a reading with what that state holds: a QUEUED reading has no result, an AWAITING one a result
without M, a READY one a result with M (R24). -/
inductive Stage where
  | queued
  | awaiting (result : Conversion)
  | ready (result : Conversion) (m : Nat)
deriving DecidableEq, Repr

/-- A reading record (R23). -/
structure Reading where
  tag : BitVec 8
  vRaw : Nat
  t : Nat
  rhoM : Nat
  flush : Bool
  fault : Bool
  bank : BankId
  stage : Stage
deriving DecidableEq, Repr

/-- What the station table holds for one station (R3, R6, R23, R26, R27, R38, R39). -/
structure Station where
  service : ServiceState
  silence : Option LineTime
  banks : Quad Bank
  active : BankId
  lastGood : Option Composition
  queue : List Reading
  tag : BitVec 8
  resolve : Option LineTime
deriving DecidableEq, Repr

/-- A parcel record while it is in a queue (R51). A record on the free list holds zero in every field but its index,
and is held as that index. -/
structure Parcel where
  index : Nat
  origin : StationId
  entry : LineTime
  volume : Nat
  solids : Nat
  bank : BankId
  flags : Flags
deriving DecidableEq, Repr

/-- The derived thresholds of a present span (R129). -/
structure Thresholds where
  tLeak : Nat
  tDrift : Nat
  tDep : Nat
  vC : Nat
  m : Nat
  nS : Nat
  nC : Nat
deriving DecidableEq, Repr

/-- What R12 derives for a present span: its upstream end, its first and last segment, its fill volume and its
thresholds. -/
structure SpanLine where
  upstream : StationId
  first : SegId
  last : SegId
  vSpan : Nat
  thr : Thresholds
deriving DecidableEq, Repr

/-- A window entry (R76, R96). -/
structure WindowEntry where
  dI : Int
  vOut : Nat
  e : Nat
deriving DecidableEq, Repr

/-- A span record (R76). It is present exactly while `line` is held (R11, R12); n is the length of its queue. -/
structure Span where
  line : Option SpanLine
  state : SpanState
  epochStart : LineTime
  q : Nat
  s : Nat
  d : Nat
  o : Int
  inflow : Nat
  outflow : Nat
  i : Int
  updates : Nat
  mark : Bool
  window : List WindowEntry
  wI : Int
  wV : Nat
  wE : Nat
  vIn : Option Nat
  vOut : Option Nat
  eLeak : Nat
  eDep : Nat
  eDrift : Nat
  verdict : Verdict
  latch : Bool
  hold : Option LineTime
deriving DecidableEq, Repr

/-- An absent record: no parcel, CLOSED, BLIND, latch clear, no hold, every balance field zero (R11, R77). -/
def Span.blank : Span where
  line := none
  state := .closed
  epochStart := 0
  q := 0
  s := 0
  d := 0
  o := 0
  inflow := 0
  outflow := 0
  i := 0
  updates := 0
  mark := false
  window := []
  wI := 0
  wV := 0
  wE := 0
  vIn := none
  vOut := none
  eLeak := 0
  eDep := 0
  eDrift := 0
  verdict := .blind
  latch := false
  hold := none

/-- The nine settings of a segment (R8, R128). -/
structure Settings where
  length : Nat
  dPipe : Nat
  vC : Nat
  tLeak : Nat
  tDrift : Nat
  tDep : Nat
  m : Nat
  nS : Nat
  nC : Nat
deriving DecidableEq, Repr

/-- A pending proposal: its proposer, its settings and the expiry of the agreement timer (R130). -/
structure Proposal where
  proposer : StationId
  settings : Settings
  expiry : LineTime
deriving DecidableEq, Repr

/-- A segment record (R8, R9, R130). -/
structure Segment where
  settings : Settings
  area : Nat
  vSeg : Nat
  proposal : Option Proposal
deriving DecidableEq, Repr

/-- A watch counter (R143). It is FREE exactly while it has no owner. -/
structure Watch where
  owner : Option PortId
  source : WatchSource
  filter : Option SpanId
  origins : BitVec 4
  banks : BitVec 4
  mode : WatchMode
  threshold : Int
  value : Int
  overflow : Bool
  notify : Bool
  freeze : Bool
  frozen : Bool
  lastCompare : Bool
deriving DecidableEq, Repr

/-- A FREE counter: no owner, value zero, the claim configuration, both flags clear, last compare false (R144). -/
def Watch.free : Watch where
  owner := none
  source := .updates
  filter := none
  origins := 0xF#4
  banks := 0xF#4
  mode := .add
  threshold := 0
  value := 0
  overflow := false
  notify := false
  freeze := false
  frozen := false
  lastCompare := false

/-- What a notice says, by its kind (R174). -/
inductive NoticeBody where
  | resolve (station : StationId) (tag : BitVec 8) (cls : ReadingClass) (rhoM v : Nat) (bank : BankId)
  | verdict (span : SpanId) (before after : Verdict)
  | span (span : SpanId) (event : SpanEvent) (state : SpanState)
  | settings (segment : SegId) (event : SettingsEvent)
  | watch (counter : WatchId) (value : Int)
  | station (station : StationId) (service : ServiceState)
deriving DecidableEq, Repr

/-- The key of a notice: its kind with the key value of R174. -/
inductive NoticeKey where
  | resolve (station : StationId)
  | verdict (span : SpanId)
  | span (span : SpanId)
  | settings (segment : SegId)
  | watch (counter : WatchId)
  | station (station : StationId)
deriving DecidableEq, Repr

/-- A held notice: its urgency is the part of the queue it stands in (R175). -/
structure Notice where
  body : NoticeBody
  raisedAt : LineTime
deriving DecidableEq, Repr

/-- The result codes of R186. -/
inductive Result where
  | done
  | full
  | outOfService
  | notParty
  | notOwner
  | noneFree
  | late
  | conflict
  | mismatch
  | endsNotReady
  | wrongState
  | outOfRange
  | malformed
  | unknownKind
  | unconfigured
  | notLatched
  | noStation
  | empty
  | noSpan
deriving DecidableEq, Repr

/-- The head state of a reading queue, as STATUS reports it (R23). -/
inductive HeadState where
  | empty
  | ready
  | awaiting
deriving DecidableEq, Repr

/-- One station's items in a STATUS reply (R173). -/
structure StationStatus where
  service : ServiceState
  depth : Nat
  head : HeadState
deriving DecidableEq, Repr

/-- The items of a SPAN_READ reply (R102). -/
structure SpanReport where
  id : SpanId
  state : SpanState
  line : SpanLine
  n : Nat
  q : Nat
  s : Nat
  d : Nat
  o : Int
  x : Int
  inflow : Nat
  outflow : Nat
  i : Int
  updates : Nat
  epochStart : LineTime
  fill : Nat
  wI : Int
  wV : Nat
  wE : Nat
  vIn : Option Nat
  vOut : Option Nat
  mark : Bool
  eLeak : Nat
  eDep : Nat
  eDrift : Nat
  verdict : Verdict
  latch : Bool
  hold : Option LineTime
deriving DecidableEq, Repr

/-- What a reply carries after its result code (R188). -/
inductive ReplyBody where
  | none
  | status (config : ConfigState) (lineTime : LineTime) (n : Nat) (stations : Quad StationStatus) (free : Nat)
      (present : Trio Bool)
  | tag (tag : BitVec 8)
  | bank (station : StationId) (bank active : BankId) (record : Bank)
  | span (report : SpanReport)
  | parcels (span : SpanId) (n start : Nat) (lineTime : LineTime) (parcels : List Parcel)
  | outcome (outcome : ProposalOutcome)
  | segment (segment : SegId) (settings : Settings) (area vSeg : Nat) (span : Option SpanId)
      (proposal : Option Proposal)
  | index (counter : WatchId)
  | watch (counter : WatchId) (record : Watch)
  | owned (count : Nat)
  | notice (notice : Notice) (urgent : Bool) (left : Nat)
deriving DecidableEq, Repr

/-- A reply in a reply buffer: the kind it answers, its result code and what follows (R168). -/
structure Reply where
  kind : Byte
  result : Result
  body : ReplyBody
deriving DecidableEq, Repr

/-- The receiver of a port (R164, R171): the data of a frame are its kind byte and payload. `awaitMark` is the wait for
the line to return to mark after a break. -/
inductive Receiver where
  | idle
  | hunt
  | length
  | body (left : Nat) (data : List Byte) (check : BitVec 16)
  | check (data : List Byte) (check : BitVec 16) (low : Option Byte)
  | awaitMark
deriving DecidableEq, Repr

/-- A station port (R163): link rate, receiver, reply buffer, the two parts of the notice queue, the attention line, and
the qualified level of its trip input (R104). -/
structure Port where
  rate : Option LinkRate
  rx : Receiver
  replies : List Reply
  urgent : List Notice
  routine : List Notice
  attn : Level
  trip : Level
deriving DecidableEq, Repr

/-- The state of the LB-4. `pending` is the model's own queue of waiting commands (log entry 1); every other field is
the spec's. `sdo` is the bytes of the command that the loader sends on SDO while SCS is low; none while it is high (R181). -/
structure State where
  config : ConfigState
  n : Nat
  lineTime : LineTime
  tStale : Nat
  tRes : Nat
  tAgree : Nat
  tTrip : Nat
  scs : Level
  sdo : List Byte
  stations : Quad Station
  lastGranted : Option PortId
  free : List Nat
  queues : Trio (List Parcel)
  spans : Trio Span
  segments : Trio Segment
  watches : Octet Watch
  ports : Quad Port
  pending : List Instr
deriving DecidableEq, Repr

/-- Why a step faults. The spec stops the machine nowhere, so there is no reason: no step faults. -/
inductive Fault where
deriving DecidableEq, Repr

/-- Why a step is refused. -/
inductive Refusal where
  /-- Raised by an arm of `exec` whose command has no meaning yet; safe. No arm raises it: every command has one. -/
  | notModelled (mnemonic : String)
deriving DecidableEq, Repr

/-- A bank before any image is accepted. DESIGN CHOICE, log entry 9 (unsafe). -/
def Bank.zero : Bank := ⟨0, 0, 0, 0, 0, .refer⟩

/-- A segment's settings before any image is accepted. DESIGN CHOICE, log entry 9 (unsafe). -/
def Settings.zero : Settings := ⟨0, 0, 0, 0, 0, 0, 0, 0, 0⟩

/-- A station at reset: UNUSED (R180), no timer, empty queue, tag counter 0 (R23), no last-good composition (R38). -/
def Station.atReset : Station where
  service := .unused
  silence := none
  banks := Quad.fill Bank.zero
  active := 0
  lastGood := none
  queue := []
  tag := 0
  resolve := none

/-- A segment at reset: no proposal (R130). -/
def Segment.atReset : Segment := ⟨Settings.zero, 0, 0, none⟩

/-- A port at reset: receiver IDLE, no reply, no notice, attention line high (R163). The trip level is a
DESIGN CHOICE, log entry 8 (unsafe). -/
def Port.atReset : Port where
  rate := none
  rx := .idle
  replies := []
  urgent := []
  routine := []
  attn := .high
  trip := .high

/-- The number of parcel records (R53). -/
def poolSize : Nat := 2048

/-- The bytes the loader sends on SDO: the read command 0x03 and a three-byte address of 0, most significant byte first
(R181). It is the only command that the part sends on the serial-memory line (R184). -/
def imageReadCommand : List Byte := [0x03, 0x00, 0x00, 0x00]

/-- The machine as a reset leaves it (R180): LOADING, the image read begun with SCS low and its command sent (R181), every
block at its reset values. -/
def State.reset : State where
  config := .loading
  n := 0
  lineTime := 0
  tStale := 0
  tRes := 0
  tAgree := 0
  tTrip := 0
  scs := .low
  sdo := imageReadCommand
  stations := Quad.fill Station.atReset
  lastGranted := none
  free := List.range poolSize
  queues := Trio.fill []
  spans := Trio.fill Span.blank
  segments := Trio.fill Segment.atReset
  watches := Octet.fill Watch.free
  ports := Quad.fill Port.atReset
  pending := []

end Sys2Proof.Machine
end

