-- ==== Sys2Proof/Machine/Flags.lean ====
section
/-! DEFINITION. The flags of a parcel and of a conversion result (R23, R52). -/

namespace Sys2Proof.Machine

/-- Every flag of either (R59). -/
def Flags.join (a b : Flags) : Flags where
  prime := a.prime || b.prime
  water := a.water || b.water
  flush := a.flush || b.flush
  estimated := a.estimated || b.estimated
  referred := a.referred || b.referred
  coalesced := a.coalesced || b.coalesced
  transient := a.transient || b.transient

/-- Whether a drained portion taints its update: ESTIMATED or TRANSIENT (R66). -/
def Flags.taints (f : Flags) : Bool := f.estimated || f.transient

/-- The flags of a parcel that an inflow appends: those of the reading's result, and TRANSIENT while the span's hold
runs (R48, R111). -/
def Flags.ofInflow (result : Flags) (holdRuns : Bool) : Flags := { result with transient := holdRuns }

/-- The flags of a prime parcel: PRIME, WATER if c_fill is 0, and TRANSIENT while a hold runs (R14, R111). -/
def Flags.ofPrime (cFill : Nat) (holdRuns : Bool) : Flags :=
  { Flags.none with prime := true, water := cFill == 0, transient := holdRuns }

/-- The flag byte: bit 0 PRIME, 1 WATER, 2 FLUSH, 3 ESTIMATED, 4 REFERRED, 5 COALESCED, 6 TRANSIENT (R186). -/
def Flags.code (f : Flags) : Nat :=
  f.prime.toNat + 2 * f.water.toNat + 4 * f.flush.toNat + 8 * f.estimated.toNat + 16 * f.referred.toNat +
    32 * f.coalesced.toNat + 64 * f.transient.toNat

end Sys2Proof.Machine
end

