-- ==== Sys2Proof/Machine/Ops.lean ====
section
/-! DEFINITION. The named operations over the state that every chapter shares: reads and updates of one record, timers,
saturating arithmetic, notices (R174 to R179) and replies (R168). -/

namespace Sys2Proof

/-- The number of a segment or span: 1, 2 or 3. -/
def SegId.num : SegId → Nat
  | .one => 1
  | .two => 2
  | .three => 3

/-- The downstream end station of segment k, station k; also the downstream end of span k (R8, R10). -/
def SegId.downStation : SegId → StationId
  | .one => 1
  | .two => 2
  | .three => 3

/-- The upstream end station of segment k, station k-1 (R8). -/
def SegId.upStation : SegId → StationId
  | .one => 0
  | .two => 1
  | .three => 2

/-- The segment that ends at a station, and the span of which the station would be the downstream end; none for
station 0. -/
def SegId.endingAt (st : StationId) : Option SegId :=
  match st with
  | 0 => none
  | 1 => some .one
  | 2 => some .two
  | 3 => some .three

/-- The segment or span that a request's number names; none for a number that is not 1 to 3. -/
def SegId.ofNumber (b : Byte) : Option SegId :=
  match b.toNat with
  | 1 => some .one
  | 2 => some .two
  | 3 => some .three
  | _ => none

/-- The numbers in rising order. -/
def SegId.all : List SegId := [.one, .two, .three]

namespace Machine

/-! Reads and updates of one record. -/

/-- The record of a station. -/
def State.station (s : State) (st : StationId) : Station := s.stations.get st

/-- The record of a port. -/
def State.port (s : State) (p : PortId) : Port := s.ports.get p

/-- The record of a span id. -/
def State.span (s : State) (j : SpanId) : Span := s.spans.get j

/-- The record of a segment. -/
def State.segment (s : State) (k : SegId) : Segment := s.segments.get k

/-- The parcel queue of a span id, head first (R56). -/
def State.queue (s : State) (j : SpanId) : List Parcel := s.queues.get j

/-- A watch counter. -/
def State.watch (s : State) (i : WatchId) : Watch := s.watches.get i

/-- Replaces the record of a station. -/
def State.setStation (s : State) (st : StationId) (x : Station) : State := { s with stations := s.stations.set st x }

/-- Replaces the record of a port. -/
def State.setPort (s : State) (p : PortId) (x : Port) : State := { s with ports := s.ports.set p x }

/-- Replaces the record of a span id. -/
def State.setSpan (s : State) (j : SpanId) (x : Span) : State := { s with spans := s.spans.set j x }

/-- Replaces the record of a segment. -/
def State.setSegment (s : State) (k : SegId) (x : Segment) : State := { s with segments := s.segments.set k x }

/-- Replaces the parcel queue of a span id. -/
def State.setQueue (s : State) (j : SpanId) (x : List Parcel) : State := { s with queues := s.queues.set j x }

/-- Replaces the free list. -/
def State.setFree (s : State) (x : List Nat) : State := { s with free := x }

/-- Replaces every watch counter. -/
def State.setWatches (s : State) (x : Octet Watch) : State := { s with watches := x }

/-- Replaces one watch counter. -/
def State.setWatch (s : State) (i : WatchId) (x : Watch) : State := s.setWatches (s.watches.set i x)

/-- Whether a station index is configured, that is below N (R3). -/
def State.isConfigured (s : State) (st : StationId) : Bool := st.val < s.n

/-- Whether a station is IN_SERVICE. -/
def State.inService (s : State) (st : StationId) : Bool := (s.station st).service == .inService

/-- The ports in rising order. -/
def allPorts : List PortId := [0, 1, 2, 3]

/-! Timers (R2). -/

/-- The expiry of a timer of a length started at a line time, modulo 2^32 (R2). -/
def expiryAfter (now : LineTime) (length : Nat) : LineTime := now + BitVec.ofNat 32 length

/-- Whether line time has reached an expiry. No timer is longer than 600 s, so an expiry less than 2^31 s back has been
reached and one ahead has not (R2; log entry 6). -/
def reached (now expiry : LineTime) : Bool := (now - expiry).toNat < 2 ^ 31

/-- Whether a timer runs and its expiry has been reached. -/
def timerDue (now : LineTime) : Option LineTime → Bool
  | none => false
  | some e => reached now e

/-! Saturating arithmetic of the balance fields (R79) and the wrap of a watch counter (R157). -/

/-- The largest unsigned 48-bit value. -/
def maxU48 : Nat := 2 ^ 48 - 1

/-- The largest signed 48-bit value. -/
def maxS48 : Int := 2 ^ 47 - 1

/-- The smallest signed 48-bit value. -/
def minS48 : Int := -2 ^ 47

/-- The largest volume or solids of one parcel, 2^40 - 1 (R51). -/
def maxParcel : Nat := 2 ^ 40 - 1

/-- An unsigned balance field held at its limit (R79). -/
def satU48 (x : Nat) : Nat := min x maxU48

/-- A signed balance field held at its limits (R79, R82). -/
def satS48 (x : Int) : Int := max minS48 (min x maxS48)

/-- Whether an exact value is beyond the unsigned 48-bit range, so that the saturation mark is set (R80). -/
def overU48 (x : Nat) : Bool := maxU48 < x

/-- Whether an exact value is beyond the signed 48-bit range. -/
def overS48 (x : Int) : Bool := x < minS48 || maxS48 < x

/-- An exact value taken modulo 2^48 into the signed 48-bit range (R157). -/
def wrapS48 (x : Int) : Int := Int.bmod x (2 ^ 48)

/-- floor((x + divisor / 2) / divisor) with the half taken by floor: round-half-up of 00_scope. -/
def roundHalfUp (x divisor : Nat) : Nat := (x + divisor / 2) / divisor

/-! Notices (R174 to R179). -/

/-- The key of a notice (R174). -/
def NoticeBody.key : NoticeBody → NoticeKey
  | .resolve st _ _ _ _ _ => .resolve st
  | .verdict j _ _ => .verdict j
  | .span j _ _ => .span j
  | .settings k _ => .settings k
  | .watch i _ => .watch i
  | .station st _ => .station st

/-- The key of a held notice. -/
def Notice.key (n : Notice) : NoticeKey := n.body.key

/-- The payload of a held notice after a raising with its key: a VERDICT keeps its "from" and takes the new "to"; every
other payload is replaced (R176). -/
def NoticeBody.coalesce (held raised : NoticeBody) : NoticeBody :=
  match held, raised with
  | .verdict _ before _, .verdict j _ after => .verdict j before after
  | _, _ => raised

/-- A held notice after a raising with its key; the line time raised is kept (R176). -/
def Notice.coalesce (n : Notice) (raised : NoticeBody) : Notice := { n with body := n.body.coalesce raised }

/-- Whether a part of a notice queue holds a key. -/
def holdsKey (key : NoticeKey) (part : List Notice) : Bool := part.any (fun n => n.key == key)

/-- A part with the notice of the raised key updated in place (R176). -/
def updateHeld (raised : NoticeBody) (part : List Notice) : List Notice :=
  part.map (fun n => if n.key = raised.key then n.coalesce raised else n)

/-- A part without the notices of a key. -/
def dropKey (key : NoticeKey) (part : List Notice) : List Notice := part.filter (fun n => n.key != key)

/-- A port with another notice queue: its attention line is low exactly while the queue holds a notice (R179). -/
def Port.withNotices (p : Port) (urgent routine : List Notice) : Port :=
  { p with
    urgent := urgent
    routine := routine
    attn := if urgent.isEmpty && routine.isEmpty then .high else .low }

/-- A notice raised to a port (R175, R176): held in the URGENT part, it is updated in place; held in the ROUTINE part, it
is updated in place or, if raised URGENT, moved to the tail of the URGENT part; else it is added at the tail of the part of
its urgency. -/
def Port.raise (p : Port) (body : NoticeBody) (urgent : Bool) (now : LineTime) : Port :=
  if holdsKey body.key p.urgent then p.withNotices (updateHeld body p.urgent) p.routine
  else if holdsKey body.key p.routine then
    if urgent then
      p.withNotices (p.urgent ++ updateHeld body (p.routine.filter (fun n => n.key == body.key)))
        (dropKey body.key p.routine)
    else p.withNotices p.urgent (updateHeld body p.routine)
  else if urgent then p.withNotices (p.urgent ++ [⟨body, now⟩]) p.routine
  else p.withNotices p.urgent (p.routine ++ [⟨body, now⟩])

/-- A notice raised to the port of a station, at the current line time. -/
def State.raise (s : State) (p : PortId) (body : NoticeBody) (urgent : Bool) : State :=
  s.setPort p ((s.port p).raise body urgent s.lineTime)

/-- The RESOLVE notice of a station is removed from its own port's queue if it is still held (R178). -/
def State.withdrawResolve (s : State) (st : StationId) : State :=
  s.setPort st ((s.port st).withNotices (dropKey (.resolve st) (s.port st).urgent)
    (dropKey (.resolve st) (s.port st).routine))

/-- A notice raised to the ports of both end stations of a present span (R126, R174). -/
def State.raiseToEnds (s : State) (j : SpanId) (body : NoticeBody) (urgent : Bool) : State :=
  match (s.span j).line with
  | none => s
  | some l => (s.raise l.upstream body urgent).raise j.downStation body urgent

/-- The SPAN notice of an event, with the span's state as it stands, to both end ports (R174). -/
def State.raiseSpan (s : State) (j : SpanId) (event : SpanEvent) : State :=
  s.raiseToEnds j (.span j event (s.span j).state) false

/-- The VERDICT notice, if the span's verdict is another than the one held before: URGENT when it is LEAK (R126). -/
def State.announceVerdict (s : State) (j : SpanId) (before : Verdict) : State :=
  if (s.span j).verdict = before then s
  else s.raiseToEnds j (.verdict j before (s.span j).verdict) ((s.span j).verdict == .leak)

/-! Replies (R168). -/

/-- The places of a reply buffer (R168). -/
def replyPlaces : Nat := 4

/-- A port with a reply placed at the tail of its reply buffer (R168). -/
def Port.reply (p : Port) (r : Reply) : Port := { p with replies := p.replies ++ [r] }

/-- A reply placed at the tail of a port's reply buffer (R168). -/
def State.reply (s : State) (p : PortId) (kind : Byte) (result : Result) (body : ReplyBody) : State :=
  s.setPort p ((s.port p).reply ⟨kind, result, body⟩)

/-- What an owning block hands back for a taken request: the result, what the reply carries, and the state (R167). -/
structure Answer where
  result : Result
  body : ReplyBody
  state : State

/-- An answer that changes nothing: a refusal by result code. -/
def refuse (s : State) (result : Result) : Answer := ⟨result, .none, s⟩

/-- DONE with no payload. -/
def doneWith (s : State) : Answer := ⟨.done, .none, s⟩

end Machine
end Sys2Proof
end

