-- ==== Sys2Proof/Machine/Replies.lean ====
section
/-! DEFINITION. The bytes of a reply as its port sends them (R168, R186, R188, R189). -/

namespace Sys2Proof.Machine

/-- A signed value in n bytes, two's complement, least significant first (R186). -/
def signedBytes (n : Nat) (x : Int) : List Byte := leBytes n (x % (256 ^ n : Nat)).toNat

/-- One byte of a small value. -/
def byte (x : Nat) : Byte := BitVec.ofNat 8 x

/-- The result codes (R186). -/
def Result.code : Result → Byte
  | .done => 0x00
  | .full => 0x01
  | .outOfService => 0x02
  | .notParty => 0x03
  | .notOwner => 0x04
  | .noneFree => 0x05
  | .late => 0x06
  | .conflict => 0x07
  | .mismatch => 0x08
  | .endsNotReady => 0x09
  | .wrongState => 0x0A
  | .outOfRange => 0x0B
  | .malformed => 0x0C
  | .unknownKind => 0x0D
  | .unconfigured => 0x0E
  | .notLatched => 0x0F
  | .noStation => 0x10
  | .empty => 0x11
  | .noSpan => 0x12

/-- The configuration state codes (R186); no reply is formed while LOADING. -/
def ConfigState.code : ConfigState → Byte
  | .configured => 0
  | .unconfigured => 1
  | .loading => 1

/-- The service state codes (R186). -/
def ServiceState.code : ServiceState → Byte
  | .out => 0
  | .inService => 1
  | .stale => 2
  | .unused => 3

/-- The head state codes (R186). -/
def HeadState.code : HeadState → Byte
  | .empty => 0
  | .ready => 1
  | .awaiting => 2

/-- The span state codes (R186). -/
def SpanState.code : SpanState → Byte
  | .closed => 0
  | .opened => 1
  | .suspended => 2

/-- The verdict codes (R186). -/
def Verdict.code : Verdict → Byte
  | .blind => 0
  | .normal => 1
  | .leakSuspect => 2
  | .leak => 3
  | .depositSuspect => 4
  | .deposit => 5
  | .drift => 6

/-- The class codes (R186). -/
def ReadingClass.code : ReadingClass → Byte
  | .idle => 0
  | .flush => 1
  | .fault => 2
  | .low => 3
  | .water => 4
  | .slurry => 5
  | .high => 6

/-- The bank mode codes (R186). -/
def BankMode.code : BankMode → Byte
  | .refer => 0
  | .limit => 1

/-- The SPAN event codes (R186). -/
def SpanEvent.code : SpanEvent → Byte
  | .opened => 0
  | .closed => 1
  | .suspended => 2
  | .resumed => 3
  | .merged => 4
  | .split => 5
  | .newEpoch => 6

/-- The SETTINGS event codes (R186). -/
def SettingsEvent.code : SettingsEvent → Byte
  | .proposed => 0
  | .applied => 1
  | .expired => 2
  | .withdrawn => 3

/-- The proposal outcome codes (R186). -/
def ProposalOutcome.code : ProposalOutcome → Byte
  | .recorded => 0
  | .replaced => 1
  | .applied => 2

/-- The watch source codes (R186). -/
def WatchSource.code : WatchSource → Byte
  | .updateDeficit => 0
  | .updateExcess => 1
  | .occupancy => 2
  | .updates => 3
  | .shortfall => 4
  | .exitAge => 5
  | .exitSolids => 6
  | .inflowVelocity => 7
  | .reclaims => 8
  | .resolves => 9

/-- The watch mode codes (R186). -/
def WatchMode.code : WatchMode → Byte
  | .add => 0
  | .atLeast => 1
  | .below => 2
  | .onsets => 3

/-- The code of a span filter: 0 ANY, else the span id (R186). -/
def filterCode : Option SpanId → Byte
  | none => 0
  | some j => byte j.num

/-- The code of an owner: the port, or 0xFF for none (R186). -/
def ownerCode : Option PortId → Byte
  | none => 0xFF
  | some p => byte p.val

/-- The notice kind codes (R186). -/
def NoticeKey.kindCode : NoticeKey → Byte
  | .resolve _ => 1
  | .verdict _ => 2
  | .span _ => 3
  | .settings _ => 4
  | .watch _ => 5
  | .station _ => 6

/-- The key value of a notice (R174, R189). -/
def NoticeKey.keyCode : NoticeKey → Byte
  | .resolve st => byte st.val
  | .verdict j => byte j.num
  | .span j => byte j.num
  | .settings k => byte k.num
  | .watch i => byte i.val
  | .station st => byte st.val

/-- The payload of a notice by its kind (R189). -/
def NoticeBody.bytes : NoticeBody → List Byte
  | .resolve _ tag cls rhoM v bank => [tag, cls.code] ++ leBytes 2 rhoM ++ leBytes 4 v ++ [byte bank.val]
  | .verdict j before after => [byte j.num, before.code, after.code]
  | .span j event state => [byte j.num, event.code, state.code]
  | .settings k event => [byte k.num, event.code]
  | .watch i value => byte i.val :: signedBytes 6 value
  | .station st service => [byte st.val, service.code]

/-- The bank record as a reply carries it (R186, R188). -/
def Bank.bytes (b : Bank) : List Byte :=
  leBytes 2 b.rhoW ++ leBytes 2 b.rhoS ++ leBytes 2 b.cMax ++ leBytes 1 b.deltaW ++ leBytes 2 b.kQ ++ [b.mode.code]

/-- The settings record as a reply carries it (R186, R188). -/
def Settings.bytes (x : Settings) : List Byte :=
  leBytes 2 x.length ++ leBytes 2 x.dPipe ++ leBytes 2 x.vC ++ leBytes 4 x.tLeak ++ leBytes 4 x.tDrift ++
    leBytes 4 x.tDep ++ leBytes 2 x.m ++ leBytes 1 x.nS ++ leBytes 1 x.nC

/-- A pending proposal as SETTINGS_READ carries it: presence, proposer, record, expiry, all 0 when none is pending
(R188). -/
def proposalBytes : Option Proposal → List Byte
  | none => List.replicate 28 0
  | some q => [1, byte q.proposer.val] ++ q.settings.bytes ++ leBytes 4 q.expiry.toNat

/-- One station's bytes in a STATUS reply (R188). -/
def StationStatus.bytes (x : StationStatus) : List Byte := [x.service.code, byte x.depth, x.head.code]

/-- The span set byte: bit j set when span j is present (R188). -/
def presentByte (t : Trio Bool) : Byte := byte (2 * t.s1.toNat + 4 * t.s2.toNat + 8 * t.s3.toNat)

/-- One parcel's description, 18 bytes (R75, R188). -/
def Parcel.bytes (p : Parcel) : List Byte :=
  leBytes 2 p.index ++ [byte (p.origin.val + 16 * p.bank.val), byte p.flags.code] ++ leBytes 4 p.entry.toNat ++
    leBytes 5 p.volume ++ leBytes 5 p.solids

/-- An optional line time, 0 where absent (R186). -/
def optionalTime : Option LineTime → Nat
  | none => 0
  | some e => e.toNat

/-- The indicators byte of a span report (R188). -/
def SpanReport.indicators (r : SpanReport) : Byte :=
  byte (r.vIn.isSome.toNat + 2 * r.vOut.isSome.toNat + 4 * r.hold.isSome.toNat + 8 * r.latch.toNat + 16 * r.mark.toNat)

/-- The span report, 119 bytes (R188). -/
def SpanReport.bytes (r : SpanReport) : List Byte :=
  [byte r.id.num, r.state.code, byte r.line.upstream.val, byte r.line.first.num, byte r.line.last.num] ++
    leBytes 4 r.line.vSpan ++ leBytes 2 r.n ++ leBytes 6 r.q ++ leBytes 6 r.s ++ leBytes 6 r.d ++ signedBytes 6 r.o ++
    signedBytes 6 r.x ++ leBytes 6 r.inflow ++ leBytes 6 r.outflow ++ signedBytes 6 r.i ++ leBytes 4 r.updates ++
    leBytes 4 r.epochStart.toNat ++ leBytes 1 r.fill ++ signedBytes 8 r.wI ++ leBytes 4 r.wV ++ leBytes 8 r.wE ++
    leBytes 2 (r.vIn.getD 0) ++ leBytes 2 (r.vOut.getD 0) ++ [r.indicators, byte r.eLeak, byte r.eDep, byte r.eDrift] ++
    [r.verdict.code] ++ leBytes 4 (optionalTime r.hold) ++ leBytes 4 r.line.thr.tLeak ++ leBytes 4 r.line.thr.tDrift ++
    leBytes 4 r.line.thr.tDep ++ leBytes 2 r.line.thr.vC ++ leBytes 2 r.line.thr.m ++
    [byte r.line.thr.nS, byte r.line.thr.nC]

/-- A watch counter as WATCH_READ carries it, after its index (R188). -/
def Watch.bytes (w : Watch) : List Byte :=
  [byte w.owner.isSome.toNat, ownerCode w.owner, w.source.code, filterCode w.filter,
      byte (w.origins.toNat + 16 * w.banks.toNat), w.mode.code] ++
    signedBytes 4 w.threshold ++ [byte (w.notify.toNat + 2 * w.freeze.toNat)] ++ signedBytes 6 w.value ++
    [byte (w.overflow.toNat + 2 * w.frozen.toNat + 4 * w.lastCompare.toNat)]

/-- The family code and the revision that STATUS reports (R188). -/
def familyBytes : List Byte := leBytes 2 0x2C41 ++ [0x01]

/-- The id byte of the span that SETTINGS_READ names. -/
def spanIdByte : Option SpanId → Byte
  | none => 0
  | some j => byte j.num

/-- What a reply carries after its result code (R188, R189). -/
def ReplyBody.bytes : ReplyBody → List Byte
  | .none => []
  | .status cfg now count sts freeCount ids =>
    familyBytes ++ [cfg.code] ++ leBytes 4 now.toNat ++ [byte count] ++ sts.p0.bytes ++ sts.p1.bytes ++
      sts.p2.bytes ++ sts.p3.bytes ++ leBytes 2 freeCount ++ [presentByte ids]
  | .tag x => [x]
  | .bank st b active x => [byte st.val, byte b.val, byte active.val] ++ x.bytes
  | .span x => x.bytes
  | .parcels j n start now ps =>
    [byte j.num] ++ leBytes 2 n ++ leBytes 2 start ++ [byte ps.length] ++ leBytes 4 now.toNat ++
      ps.flatMap Parcel.bytes
  | .outcome x => [x.code]
  | .segment k x area vSeg j q =>
    [byte k.num] ++ x.bytes ++ leBytes 4 area ++ leBytes 4 vSeg ++ [spanIdByte j] ++ proposalBytes q
  | .index i => [byte i.val]
  | .watch i w => byte i.val :: w.bytes
  | .owned count => [byte count]
  | .notice x urgent left =>
    [x.key.kindCode, x.key.keyCode, byte urgent.toNat] ++ leBytes 4 x.raisedAt.toNat ++ [byte left] ++ x.body.bytes

/-- The frame of a reply: the request's kind plus 0x80, the result code, and the payload (R186). -/
def Reply.frame (r : Reply) : List Byte := frameOf (r.kind + 0x80) (r.result.code :: r.body.bytes)

/-- The frame a port has in transmission: that of the reply at the front of its buffer; nothing, with the line at mark, when
the buffer is empty (R168). -/
def Port.sending (p : Port) : List Byte :=
  match p.replies with
  | [] => []
  | r :: _ => r.frame

end Sys2Proof.Machine
end

