-- ==== Sys2Proof/Config.lean ====
section
/-! DEFINITION. What the spec leaves open: the free values of the model. No proof can see what they are. -/

namespace Sys2Proof

/-- The image byte at an offset that the serial memory does not supply: R181 says the read "yields whatever SDI
presents". Free value, log entry 10. -/
opaque Config.sdiByte : Nat → Byte

/-- The record index of an allocation that finds the free list empty and no queue of two parcels, which R58 shows
cannot arise. Free value, log entry 11. -/
opaque Config.noRecord : Nat

end Sys2Proof
end

