-- ==== Sys2Proof/Machine/Operands.lean ====
section
/-! DEFINITION. The operand forms of the requests and of the image: from the fields as carried to the machine's values, with
the range checks of R8, R27, R128 and R147. -/

namespace Sys2Proof.Machine

/-- A bank, station or port number carried in a byte, if it is 0 to 3. -/
def index4 (b : Byte) : Option (Fin 4) := if h : b.toNat < 4 then some ⟨b.toNat, h⟩ else none

/-- A watch counter index carried in a byte, if it is 0 to 7. -/
def index8 (b : Byte) : Option (Fin 8) := if h : b.toNat < 8 then some ⟨b.toNat, h⟩ else none

/-- Whether a value lies from a to b. -/
def within (a b x : Nat) : Bool := decide (a ≤ x) && decide (x ≤ b)

/-- The bank mode of its code: 0 REFER, 1 LIMIT (R186). -/
def bankModeOf (b : Byte) : Option BankMode :=
  match b.toNat with
  | 0 => some .refer
  | 1 => some .limit
  | _ => none

/-- The bank that a bank record carries, if every field lies in its range and rho_s is at least rho_w + 500 (R27, R28). -/
def bankOf (r : BankWire) : Option Bank :=
  match bankModeOf r.mode with
  | none => none
  | some mode =>
    if within 990 1100 r.rhoW.toNat && within 2000 4000 r.rhoS.toNat && decide (r.rhoW.toNat + 500 ≤ r.rhoS.toNat) &&
        within 50 600 r.cMax.toNat && within 0 50 r.deltaW.toNat && within 9000 11000 r.kQ.toNat then
      some ⟨r.rhoW.toNat, r.rhoS.toNat, r.cMax.toNat, r.deltaW.toNat, r.kQ.toNat, mode⟩
    else none

/-- The nine values that a settings record carries, in range or not (R186). -/
def settingsOf (r : SettingsWire) : Settings :=
  ⟨r.length.toNat, r.dPipe.toNat, r.vC.toNat, r.tLeak.toNat, r.tDrift.toNat, r.tDep.toNat, r.m.toNat, r.nS.toNat,
    r.nC.toNat⟩

/-- A settings record is valid when every field lies in its range and N_c is at least N_s (R8, R128). -/
def Settings.valid (x : Settings) : Bool :=
  within 10 30000 x.length && within 100 1200 x.dPipe && within 500 6000 x.vC && within 100 10000000 x.tLeak &&
    within 100 10000000 x.tDrift && within 10 1000000 x.tDep && within 0 500 x.m && within 1 254 x.nS &&
    within x.nS 255 x.nC

/-- The watch source of its code (R186). -/
def watchSourceOf (b : Byte) : Option WatchSource :=
  match b.toNat with
  | 0 => some .updateDeficit
  | 1 => some .updateExcess
  | 2 => some .occupancy
  | 3 => some .updates
  | 4 => some .shortfall
  | 5 => some .exitAge
  | 6 => some .exitSolids
  | 7 => some .inflowVelocity
  | 8 => some .reclaims
  | 9 => some .resolves
  | _ => none

/-- The span filter of its code: 0 ANY, 1 to 3 the span id (R186). -/
def watchFilterOf (b : Byte) : Option (Option SpanId) :=
  match b.toNat with
  | 0 => some none
  | 1 => some (some .one)
  | 2 => some (some .two)
  | 3 => some (some .three)
  | _ => none

/-- The watch mode of its code (R186). -/
def watchModeOf (b : Byte) : Option WatchMode :=
  match b.toNat with
  | 0 => some .add
  | 1 => some .atLeast
  | 2 => some .below
  | 3 => some .onsets
  | _ => none

/-- The link rate of its code (R190). -/
def linkRateOf (b : Byte) : Option LinkRate :=
  match b.toNat with
  | 0 => some .r19200
  | 1 => some .r38400
  | 2 => some .r57600
  | 3 => some .r115200
  | 4 => some .r230400
  | 5 => some .r460800
  | 6 => some .r921600
  | _ => none

/-- The bit rate of a link, in bit/s (R163). -/
def LinkRate.bitsPerSecond : LinkRate → Nat
  | .r19200 => 19200
  | .r38400 => 38400
  | .r57600 => 57600
  | .r115200 => 115200
  | .r230400 => 230400
  | .r460800 => 460800
  | .r921600 => 921600

end Sys2Proof.Machine
end

