-- ==== Sys2Proof/Machine/Watch.lean ====
section
/-! DEFINITION. Watch counters: samples, filters, modes, overflow, and the owner's requests (R143 to R162). -/

namespace Sys2Proof.Machine

/-- A sample: its source, its exact value, and the span, origin and bank it carries where the source has them (R152). -/
structure Sample where
  source : WatchSource
  value : Int
  span : Option SpanId
  origin : Option StationId
  bank : Option BankId
deriving DecidableEq, Repr

/-- A filter passes a sample that does not carry what it tests (R153). -/
def Watch.spanPasses (w : Watch) (x : Sample) : Bool :=
  match w.filter, x.span with
  | none, _ => true
  | some _, none => true
  | some j, some k => j == k

/-- The origin mask, on the sources that carry an origin (R153). -/
def Watch.originPasses (w : Watch) (x : Sample) : Bool :=
  match x.origin with
  | none => true
  | some st => w.origins.getLsbD st.val

/-- The bank mask, on the sources that carry a bank (R153). -/
def Watch.bankPasses (w : Watch) (x : Sample) : Bool :=
  match x.bank with
  | none => true
  | some b => w.banks.getLsbD b.val

/-- Whether a counter takes a sample: CLAIMED, not frozen, of its source, and passed by every filter that applies
(R154). -/
def Watch.takes (w : Watch) (x : Sample) : Bool :=
  w.owner.isSome && !w.frozen && decide (w.source = x.source) && w.spanPasses x && w.originPasses x && w.bankPasses x

/-- The exact result of a mode's change, before any wrap (R155). -/
def Watch.moved (w : Watch) (x : Int) : Int :=
  match w.mode with
  | .add => w.value + x
  | .atLeast => if w.threshold ≤ x then w.value + 1 else w.value
  | .below => if x < w.threshold then w.value + 1 else w.value
  | .onsets => if w.threshold ≤ x ∧ w.lastCompare = false then w.value + 1 else w.value

/-- Last compare after a sample taken (R155, R156). -/
def Watch.compareAfter (w : Watch) (x : Int) : Bool :=
  match w.mode with
  | .onsets => decide (w.threshold ≤ x)
  | _ => w.lastCompare

/-- Whether a sample taken overflows the counter (R157). -/
def Watch.overflows (w : Watch) (x : Int) : Bool := overS48 (w.moved x)

/-- A counter after a sample taken: the value wrapped, the overflow flag set by an overflow (R155 to R157). -/
def Watch.take (w : Watch) (x : Int) : Watch :=
  { w with
    value := wrapS48 (w.moved x)
    lastCompare := w.compareAfter x
    overflow := w.overflow || w.overflows x }

/-- A counter with its frozen flag set or cleared, if the port owns it (R150, R151, R159). -/
def Watch.freezeIf (p : PortId) (frozen : Bool) (w : Watch) : Watch :=
  if w.owner = some p then { w with frozen := frozen } else w

/-- The frozen flag of every counter of a port is set or cleared (R150, R151, R159). -/
def State.freezeOwned (s : State) (p : PortId) (frozen : Bool) : State :=
  s.setWatches (s.watches.map (Watch.freezeIf p frozen))

/-- What an overflow does beyond the wrap and the flag: the notice to the owner, then the freeze of the owner's counters
(R158, R159). -/
def State.onOverflow (s : State) (i : WatchId) (w : Watch) : State :=
  match w.owner with
  | none => s
  | some p =>
    let s1 := if w.notify then s.raise p (.watch i w.value) false else s
    if w.freeze then s1.freezeOwned p true else s1

/-- One sample offered to one counter (R154, R155, R157 to R159). -/
def State.offerTo (s : State) (x : Sample) (i : WatchId) : State :=
  let w := s.watch i
  if w.takes x then
    let w1 := w.take x.value
    let s1 := s.setWatch i w1
    if w.overflows x.value then s1.onOverflow i w1 else s1
  else s

/-- The counters in index order (R154). -/
def allWatches : List WatchId := [0, 1, 2, 3, 4, 5, 6, 7]

/-- One sample offered to the counters in index order (R154). -/
def State.offer (s : State) (x : Sample) : State := allWatches.foldl (fun t i => t.offerTo x i) s

/-- The samples of an event, in its rule's order (R154). -/
def State.offerAll (s : State) (xs : List Sample) : State := xs.foldl State.offer s

/-- The number of counters a port owns (R150). -/
def State.ownedCount (s : State) (p : PortId) : Nat :=
  (allWatches.filter (fun i => (s.watch i).owner == some p)).length

/-- The lowest-numbered FREE counter (R145). -/
def State.firstFree (s : State) : Option WatchId := allWatches.find? (fun i => (s.watch i).owner.isNone)

/-- WATCH_CLAIM (R145). -/
def answerWatchClaim (p : PortId) (s : State) : Answer :=
  match s.firstFree with
  | none => refuse s .noneFree
  | some i => ⟨.done, .index i, s.setWatch i { Watch.free with owner := some p }⟩

/-- The order of the checks that WATCH_SET and WATCH_RELEASE share: index, FREE, owner (R146, R147). -/
def ownedCounter (p : PortId) (index : Byte) (s : State) : Except Result WatchId :=
  match index8 index with
  | none => .error .outOfRange
  | some i =>
    match (s.watch i).owner with
    | none => .error .wrongState
    | some q => if q = p then .ok i else .error .notOwner

/-- WATCH_RELEASE (R146). -/
def answerWatchRelease (p : PortId) (index : Byte) (s : State) : Answer :=
  match ownedCounter p index s with
  | .error r => refuse s r
  | .ok i => doneWith (s.setWatch i Watch.free)

/-- A counter after WATCH_SET: the configuration and the value replaced, the overflow flag and last compare cleared, the
owner and the frozen flag kept (R148). -/
def Watch.configured (w : Watch) (source : WatchSource) (filter : Option SpanId) (mode : WatchMode) (r : WatchWire) :
    Watch where
  owner := w.owner
  source := source
  filter := filter
  origins := r.masks.extractLsb' 0 4
  banks := r.masks.extractLsb' 4 4
  mode := mode
  threshold := r.threshold.toInt
  value := r.preload.toInt
  overflow := false
  notify := r.options.getLsbD 0
  freeze := r.options.getLsbD 1
  frozen := w.frozen
  lastCompare := false

/-- WATCH_SET (R147, R148). -/
def answerWatchSet (p : PortId) (index : Byte) (r : WatchWire) (s : State) : Answer :=
  match ownedCounter p index s with
  | .error e => refuse s e
  | .ok i =>
    match watchSourceOf r.source, watchFilterOf r.filter, watchModeOf r.mode with
    | some source, some filter, some mode => doneWith (s.setWatch i ((s.watch i).configured source filter mode r))
    | _, _, _ => refuse s .outOfRange

/-- WATCH_READ (R149). -/
def answerWatchRead (index : Byte) (s : State) : Answer :=
  match index8 index with
  | none => refuse s .outOfRange
  | some i => ⟨.done, .watch i (s.watch i), s⟩

/-- WATCH_FREEZE (R150). -/
def answerWatchFreeze (p : PortId) (s : State) : Answer := ⟨.done, .owned (s.ownedCount p), s.freezeOwned p true⟩

/-- WATCH_THAW (R151). -/
def answerWatchThaw (p : PortId) (s : State) : Answer := ⟨.done, .owned (s.ownedCount p), s.freezeOwned p false⟩

end Sys2Proof.Machine
end

