-- ==== Sys2Proof/Machine/Parcels.lean ====
section
/-! DEFINITION. The parcel store: allocation and reclaim, append, drain, release, divert and split-at-volume (R51 to
R73). -/

namespace Sys2Proof.Machine

/-- The volume held in a queue. -/
def volumeIn (ps : List Parcel) : Nat := (ps.map (fun p => p.volume)).sum

/-- The solids held in a queue. -/
def solidsIn (ps : List Parcel) : Nat := (ps.map (fun p => p.solids)).sum

/-- The indices of a queue's records, head first. -/
def indicesOf (ps : List Parcel) : List Nat := ps.map (fun p => p.index)

/-- A record of the pool by its index: as it stands in its queue, or zero in every field but the index on the free list
(R51, R53). -/
def State.record (s : State) (i : Nat) : Parcel :=
  ((s.queue .one ++ s.queue .two ++ s.queue .three).find? (fun p => p.index == i)).getD
    ⟨i, 0, 0, 0, 0, 0, Flags.none⟩

/-- The queue a reclaim chooses: the one with most parcels, the higher span id on a tie (R58). -/
def State.fullest (s : State) : SpanId :=
  if (s.queue .one).length ≤ (s.queue .three).length ∧ (s.queue .two).length ≤ (s.queue .three).length then .three
  else if (s.queue .one).length ≤ (s.queue .two).length then .two
  else .one

/-- The head record after a reclaim joins the second into it (R59). -/
def Parcel.join (head second : Parcel) : Parcel :=
  { head with
    volume := min (head.volume + second.volume) maxParcel
    solids := min (head.solids + second.solids) maxParcel
    flags := { head.flags.join second.flags with coalesced := true } }

/-- A reclaim: the two oldest parcels of the fullest queue become one, the freed record joins the tail of the free list,
and the watch unit samples RECLAIMS with that span (R58 to R60). -/
def State.reclaim (s : State) : State :=
  match s.queue s.fullest with
  | head :: second :: rest =>
    ((s.setQueue s.fullest (head.join second :: rest)).setFree (s.free ++ [second.index])).offer
      ⟨.reclaims, 1, some s.fullest, none, none⟩
  | _ => s

/-- The record at the head of the free list, unlinked. The case of an empty list after a reclaim cannot arise (R58):
free value, log entry 11. -/
def State.takeFree (s : State) : Nat × State :=
  match s.free with
  | [] => (Config.noRecord, s)
  | i :: rest => (i, s.setFree rest)

/-- An allocation: the head of the free list, after a reclaim if the list is empty (R57). -/
def State.allocate (s : State) : Nat × State := if s.free.isEmpty then s.reclaim.takeFree else s.takeFree

/-- A filled record linked at the tail of a queue (R62). -/
def State.append (s : State) (j : SpanId) (p : Parcel) : State := s.setQueue j (s.queue j ++ [p])

/-- A drained portion (R66). -/
structure Portion where
  whole : Bool
  volume : Nat
  solids : Nat
  origin : StationId
  entry : LineTime
  bank : BankId
  flags : Flags
deriving DecidableEq, Repr

/-- What a drain leaves and reports: the queue after it, the records drained whole, the portions head first, and the
shortfall (R63 to R66). -/
structure DrainReport where
  queue : List Parcel
  freed : List Nat
  portions : List Portion
  shortfall : Nat
deriving DecidableEq, Repr

/-- The portion that a parcel gives up: all of it, or a part (R63, R64). -/
def Parcel.portion (p : Parcel) (whole : Bool) (volume solids : Nat) : Portion :=
  ⟨whole, volume, solids, p.origin, p.entry, p.bank, p.flags⟩

/-- The walk of a drain of r litres from the head: a parcel of at most r litres is drained whole; a larger one is split,
its drained part taking floor(m × r / v) of the solids; what the queue cannot give is shortfall (R63 to R65). -/
def drainQueue (r : Nat) : List Parcel → DrainReport
  | [] => ⟨[], [], [], r⟩
  | p :: ps =>
    if r = 0 then ⟨p :: ps, [], [], 0⟩
    else if p.volume ≤ r then
      let rest := drainQueue (r - p.volume) ps
      ⟨rest.queue, p.index :: rest.freed, p.portion true p.volume p.solids :: rest.portions, rest.shortfall⟩
    else
      let taken := p.solids * r / p.volume
      ⟨{ p with volume := p.volume - r, solids := p.solids - taken } :: ps, [], [p.portion false r taken], 0⟩

/-- The expected solids E of a drain (R66). -/
def DrainReport.e (d : DrainReport) : Nat := (d.portions.map (fun x => x.solids)).sum

/-- The drained volume (R66). -/
def DrainReport.drained (d : DrainReport) : Nat := (d.portions.map (fun x => x.volume)).sum

/-- The taint: any portion carries ESTIMATED or TRANSIENT (R66). -/
def DrainReport.taint (d : DrainReport) : Bool := d.portions.any (fun x => x.flags.taints)

/-- The store after a drain of span j: its queue, and the records drained whole at the tail of the free list (R63). -/
def State.drained (s : State) (j : SpanId) (d : DrainReport) : State :=
  (s.setQueue j d.queue).setFree (s.free ++ d.freed)

/-- A release: every parcel of a queue returned to the tail of the free list, head first (R68). -/
def State.release (s : State) (j : SpanId) : State :=
  (s.setFree (s.free ++ indicesOf (s.queue j))).setQueue j []

/-- A divert: the upstream queue moved in order onto the tail of the downstream queue (R69). -/
def State.divert (s : State) (up down : SpanId) : State :=
  (s.setQueue down (s.queue down ++ s.queue up)).setQueue up []

/-- The walk of split-at-volume with r litres still to place downstream: the parcels that stay, the straddling parcel with
the litres before the cut, and the parcels that go upstream (R70). -/
def cutWalk (r : Nat) : List Parcel → List Parcel × Option (Parcel × Nat) × List Parcel
  | [] => ([], none, [])
  | p :: ps =>
    if r = 0 then ([], none, p :: ps)
    else if p.volume ≤ r then
      let rest := cutWalk (r - p.volume) ps
      (p :: rest.1, rest.2.1, rest.2.2)
    else ([], some (p, r), ps)

/-- The downstream part of a straddling parcel: the original record with a litres and the floor of its solids (R71). -/
def Parcel.downPart (p : Parcel) (a : Nat) : Parcel := { p with volume := a, solids := p.solids * a / p.volume }

/-- The upstream part: the allocated record with the rest, and the original's origin, entry time, bank and flags (R71). -/
def Parcel.upPart (p : Parcel) (a i : Nat) : Parcel :=
  { p with index := i, volume := p.volume - a, solids := p.solids - p.solids * a / p.volume }

/-- Split-at-volume of span j's queue at t litres, the rest going to span k: the allocation comes before the cut, and the
cut is made by a walk of the queue as the allocation leaves it (R70 to R72). -/
def State.splitQueue (s : State) (k j : SpanId) (t : Nat) : State :=
  match cutWalk t (s.queue j) with
  | (stay, none, go) => (s.setQueue j stay).setQueue k go
  | (_, some _, _) =>
    let s1 := s.allocate.2
    match cutWalk t (s1.queue j) with
    | (stay, some (p, a), go) =>
      (s1.setQueue j (stay ++ [p.downPart a])).setQueue k (p.upPart a s.allocate.1 :: go)
    | (stay, none, go) => ((s1.setQueue j stay).setQueue k go).setFree (s.allocate.1 :: s1.free)

end Sys2Proof.Machine
end

