-- ==== Sys2Proof/Machine/Line.lean ====
section
/-! DEFINITION. The line: segment geometry, span topology and what a span derives from its segments (R8 to R12, R129). -/

namespace Sys2Proof.Machine

/-- The flow area of a segment, in mm² (R9). -/
def areaOf (dPipe : Nat) : Nat := roundHalfUp (dPipe ^ 2 * 7854) 10000

/-- The fill volume of a segment, in litres (R9). -/
def vSegOf (area length : Nat) : Nat := roundHalfUp (area * length) 1000

/-- A segment with its settings replaced and its area and fill volume derived (R9). -/
def Segment.withSettings (g : Segment) (x : Settings) : Segment :=
  { g with settings := x, area := areaOf x.dPipe, vSeg := vSegOf (areaOf x.dPipe) x.length }

/-- Whether a number is a segment, 1 to N-1 (R8). -/
def State.isSegment (s : State) (k : SegId) : Bool := k.num < s.n

/-- The segment a request names, if it is 1 to N-1 (R131). -/
def State.segmentNamed (s : State) (b : Byte) : Option SegId :=
  (SegId.ofNumber b).filter (fun k => s.isSegment k)

/-- Whether a station is a span end: the tail, or an interior station IN_SERVICE (R10). -/
def State.isSpanEnd (s : State) (j : SpanId) : Bool :=
  j.num + 1 == s.n || (decide (j.num + 1 < s.n) && s.inService j.downStation)

/-- The upstream end of span j: the nearest span end below j, or station 0 (R10). -/
def State.upstreamEnd (s : State) (j : SpanId) : StationId :=
  match j with
  | .one => 0
  | .two => if s.isSpanEnd .one then 1 else 0
  | .three => if s.isSpanEnd .two then 2 else if s.isSpanEnd .one then 1 else 0

/-- The segment that leaves a station on its downstream side (R10). -/
def segmentLeaving (st : StationId) : SegId :=
  match st with
  | 0 => .one
  | 1 => .two
  | _ => .three

/-- The segments from an upstream end to span end j (R10). -/
def coveredSegments (up : StationId) (j : SpanId) : List SegId :=
  SegId.all.filter (fun k => decide (up.val < k.num) && decide (k.num ≤ j.num))

/-- The sum of a value over segments. -/
def State.sumOver (s : State) (ks : List SegId) (f : Segment → Nat) : Nat := (ks.map (fun k => f (s.segment k))).sum

/-- The derived thresholds: sums of T_leak, T_drift and T_dep, the largest v_c, and m, N_s, N_c of the last segment
(R129). -/
def State.thresholdsOver (s : State) (ks : List SegId) (last : SegId) : Thresholds where
  tLeak := s.sumOver ks (fun g => g.settings.tLeak)
  tDrift := s.sumOver ks (fun g => g.settings.tDrift)
  tDep := s.sumOver ks (fun g => g.settings.tDep)
  vC := (ks.map (fun k => (s.segment k).settings.vC)).foldl max 0
  m := (s.segment last).settings.m
  nS := (s.segment last).settings.nS
  nC := (s.segment last).settings.nC

/-- What R12 derives for span j as the topology and the settings stand. -/
def State.derivedLine (s : State) (j : SpanId) : SpanLine :=
  let up := s.upstreamEnd j
  let ks := coveredSegments up j
  { upstream := up
    first := segmentLeaving up
    last := j
    vSpan := s.sumOver ks (fun g => g.vSeg)
    thr := s.thresholdsOver ks j }

/-- The same, for a span that is present; none for one that is not a span end (R11, R12). -/
def State.lineOf (s : State) (j : SpanId) : Option SpanLine :=
  if s.isSpanEnd j then some (s.derivedLine j) else none

/-- Span j re-derived (R12). -/
def State.rederive (s : State) (j : SpanId) : State := s.setSpan j { s.span j with line := s.lineOf j }

/-- Every span re-derived, as at a topology change (R12). -/
def State.rederiveAll (s : State) : State := ((s.rederive .one).rederive .two).rederive .three

/-- The fill volume a span record holds. -/
def Span.vSpan (sp : Span) : Nat :=
  match sp.line with
  | none => 0
  | some l => l.vSpan

/-- Whether the span is present with a station as its upstream end. -/
def State.feeds (s : State) (st : StationId) (j : SpanId) : Bool :=
  match (s.span j).line with
  | none => false
  | some l => l.upstream == st

/-- The span whose upstream end is a station (R46). -/
def State.spanFedBy (s : State) (st : StationId) : Option SpanId := SegId.all.find? (fun j => s.feeds st j)

/-- Whether span j is present and covers segment k. -/
def State.covers (s : State) (j : SpanId) (k : SegId) : Bool :=
  match (s.span j).line with
  | none => false
  | some l => decide (l.upstream.val < k.num) && decide (k.num ≤ j.num)

/-- The span that contains a segment (R10). -/
def State.spanContaining (s : State) (k : SegId) : Option SpanId := SegId.all.find? (fun j => s.covers j k)

/-- The span a request names, if it is a current span end (R11). -/
def State.spanNamed (s : State) (b : Byte) : Option (SpanId × SpanLine) :=
  match SegId.ofNumber b with
  | none => none
  | some j => (s.span j).line.map (fun l => (j, l))

/-- Whether a station is an end of a present span. -/
def isEndOf (st : StationId) (j : SpanId) (l : SpanLine) : Bool := st == l.upstream || st == j.downStation

/-- Whether both end stations of a span are IN_SERVICE (R16). -/
def State.bothEndsIn (s : State) (j : SpanId) (l : SpanLine) : Bool :=
  s.inService l.upstream && s.inService j.downStation

/-- OPEN if both ends are IN_SERVICE, else SUSPENDED (R16). -/
def State.stateByEnds (s : State) (j : SpanId) : SpanState :=
  match (s.span j).line with
  | none => .closed
  | some l => if s.bothEndsIn j l then .opened else .suspended

/-- The velocity of a reading against an area, in mm/s, held at 65 535 (R49). -/
def velocity (v area tC : Nat) : Nat := min (roundHalfUp (v * 10 ^ 9) (area * tC)) 65535

/-- The solids of a volume at a fraction and a solids density, in kg (R35, R38, R14). -/
def massOf (v cBp rhoS : Nat) : Nat := (v * cBp * rhoS + 5000000) / 10000000

end Sys2Proof.Machine
end

