-- ==== Sys2Proof/Machine/Verdicts.lean ====
section
/-! DEFINITION. Excess, evidence, verdict derivation, the leak latch, transient holds and trip inputs, and VERDICT_CLEAR
(R82, R104 to R127). -/

namespace Sys2Proof.Machine

/-- The excess X = Q - D - V_span, exact (R82). -/
def Span.excess (sp : Span) : Int := (sp.q : Int) - sp.d - sp.vSpan

/-- The excess as it is reported or sampled, held at the 48-bit limits (R82). -/
def Span.reportedExcess (sp : Span) : Int := satS48 sp.excess

/-- The entries of a full window (R96). -/
def windowSize : Nat := 16

/-- The largest value of an evidence counter (R113). -/
def maxEvidence : Nat := 255

/-- The leak condition (R115). -/
def Span.leakHolds (sp : Span) (t : Thresholds) : Bool := decide ((t.tLeak : Int) ≤ sp.excess)

/-- The deposit condition: the window deficit, and the velocity of the last inflow of the epoch (R116). -/
def Span.depositHolds (sp : Span) (t : Thresholds) : Bool :=
  match sp.vIn with
  | none => false
  | some v => decide ((t.tDep : Int) ≤ sp.wI) && decide (v * 1000 < t.vC * (1000 + t.m))

/-- The drift condition (R117). -/
def Span.driftHolds (sp : Span) (t : Thresholds) : Bool :=
  decide (sp.excess ≤ -(t.tDrift : Int)) || decide (sp.wI ≤ -(t.tDep : Int))

/-- An evidence counter moved by its condition: up by 1 to at most 255, or down by 1 to at least 0 (R118). -/
def moveEvidence (e : Nat) (holds : Bool) : Nat := if holds then min (e + 1) maxEvidence else e - 1

/-- The evidence moved by a counted update: all three conditions decided before any counter moves (R114, R118). -/
def Span.evaluate (sp : Span) (t : Thresholds) : Span :=
  { sp with
    eLeak := moveEvidence sp.eLeak (sp.leakHolds t)
    eDep := moveEvidence sp.eDep (sp.depositHolds t)
    eDrift := moveEvidence sp.eDrift (sp.driftHolds t) }

/-- The verdict of an OPEN span with a full window whose latch is clear, from its evidence and its previous verdict
(cases 3 to 8 of R121). -/
def Span.findingBy (sp : Span) (t : Thresholds) : Verdict :=
  if t.nC ≤ sp.eLeak then .leak
  else if t.nS ≤ sp.eLeak then .leakSuspect
  else if t.nC ≤ sp.eDep ∨ (sp.verdict = .deposit ∧ t.nS ≤ sp.eDep) then .deposit
  else if t.nS ≤ sp.eDep then .depositSuspect
  else if t.nS ≤ sp.eDrift then .drift
  else .normal

/-- The verdict that derivation gives (R121). -/
def Span.derivedVerdict (sp : Span) : Verdict :=
  if sp.latch then .leak
  else
    match sp.line with
    | none => .blind
    | some l => if sp.state = .opened ∧ windowSize ≤ sp.window.length then sp.findingBy l.thr else .blind

/-- Derivation: the verdict set, and the leak latch set with LEAK (R121, R123). -/
def Span.derive (sp : Span) : Span :=
  { sp with verdict := sp.derivedVerdict, latch := sp.latch || sp.derivedVerdict == .leak }

/-- The later of two hold expiries: the one farther ahead of the line time, modulo 2^32 (R20). -/
def laterHold (now : LineTime) (a b : Option LineTime) : Option LineTime :=
  match a, b with
  | none, y => y
  | x, none => x
  | some x, some y => if (x - now).toNat < (y - now).toNat then some y else some x

/-- Whether a station touches span j: a segment of it has the station at one end (R106). -/
def State.touches (s : State) (st : StationId) (j : SpanId) : Bool :=
  match (s.span j).line with
  | none => false
  | some l => decide (l.upstream.val ≤ st.val) && decide (st.val ≤ j.num)

/-- The hold of span j started or restarted, if the station touches it (R107). -/
def State.holdIfTouched (s : State) (st : StationId) (j : SpanId) : State :=
  if s.touches st j then s.setSpan j { s.span j with hold := some (expiryAfter s.lineTime s.tTrip) } else s

/-- A falling edge of a station taken by the verdict unit (R106, R107). -/
def State.trippedBy (s : State) (st : StationId) : State :=
  ((s.holdIfTouched st .one).holdIfTouched st .two).holdIfTouched st .three

/-- TRIP_FALLING_EDGE: while CONFIGURED and the qualified level is HIGH, it becomes LOW and the falling edge is taken
(R104, R107). An edge of an unused port touches no span (R105). -/
def execTripFallingEdge (p : PortId) (s : State) : Host.Outcome State Fault Refusal :=
  .next (if s.config = .configured ∧ (s.port p).trip = .high then
      (s.setPort p { s.port p with trip := .low }).trippedBy p
    else s)

/-- TRIP_RELEASE: while CONFIGURED and the qualified level is LOW, it becomes HIGH, with no event (R104). -/
def execTripRelease (p : PortId) (s : State) : Host.Outcome State Fault Refusal :=
  .next (if s.config = .configured ∧ (s.port p).trip = .low then s.setPort p { s.port p with trip := .high } else s)

/-- HOLD_EXPIRY: the hold of a span whose expiry is reached becomes absent (R108). -/
def execHoldExpiry (j : SpanId) (s : State) : Host.Outcome State Fault Refusal :=
  .next (if timerDue s.lineTime (s.span j).hold then s.setSpan j { s.span j with hold := none } else s)

/-- A span after an accepted VERDICT_CLEAR: latch clear, e_leak 0, verdict derived (R124). -/
def Span.cleared (sp : Span) : Span := Span.derive { sp with latch := false, eLeak := 0 }

/-- VERDICT_CLEAR (R124). -/
def answerVerdictClear (p : PortId) (id : Byte) (s : State) : Answer :=
  match s.spanNamed id with
  | none => refuse s .noSpan
  | some (j, l) =>
    if !isEndOf p j l then refuse s .notParty
    else if !(s.span j).latch then refuse s .notLatched
    else doneWith ((s.setSpan j (s.span j).cleared).announceVerdict j (s.span j).verdict)

end Sys2Proof.Machine
end

