-- ==== Sys2Proof/Machine/Balance.lean ====
section
/-! DEFINITION. The span record: epochs, inflows, balance updates, the window, counted updates, and SPAN_READ and
PARCEL_LIST (R74 to R103). -/

namespace Sys2Proof.Machine

/-- The largest value of an update count (R79). -/
def maxUpdates : Nat := 2 ^ 32 - 1

/-- An epoch start (R84). -/
def Span.epoch (sp : Span) (now : LineTime) : Span :=
  { sp with
    mark := overS48 sp.excess
    inflow := 0
    outflow := 0
    i := 0
    updates := 0
    window := []
    wI := 0
    wV := 0
    wE := 0
    eLeak := 0
    eDep := 0
    eDrift := 0
    vIn := none
    vOut := none
    epochStart := now
    o := satS48 sp.excess }

/-- The balance fields of an inflow of V litres and M kilograms: Q, S and in rise, and v_in is set (R87, R79, R80). -/
def Span.takeInflow (sp : Span) (v m vel : Nat) : Span :=
  { sp with
    q := satU48 (sp.q + v)
    s := satU48 (sp.s + m)
    inflow := satU48 (sp.inflow + v)
    mark := sp.mark || overU48 (sp.q + v) || overU48 (sp.s + m) || overU48 (sp.inflow + v)
    vIn := some vel }

/-- An inflow of an IDLE reading: v_in becomes 0 and nothing else changes (R88). -/
def Span.takeIdleInflow (sp : Span) : Span := { sp with vIn := some 0 }

/-- The span record after a drain report: Q, S and D (R90, R79, R80). -/
def Span.takeDrain (sp : Span) (d : DrainReport) : Span :=
  { sp with
    q := sp.q - d.drained
    s := sp.s - d.e
    d := satU48 (sp.d + d.shortfall)
    mark := sp.mark || decide (sp.q < d.drained) || decide (sp.s < d.e) || overU48 (sp.d + d.shortfall) }

/-- The deficit of an update, E - M_out (R91). -/
def deficitOf (e m : Nat) : Int := (e : Int) - m

/-- I, out and the update count (R91, R79, R80). -/
def Span.takeDeficit (sp : Span) (dI : Int) (vOut : Nat) : Span :=
  { sp with
    i := satS48 (sp.i + dI)
    outflow := satU48 (sp.outflow + vOut)
    updates := min (sp.updates + 1) maxUpdates
    mark := sp.mark || overS48 (sp.i + dI) || overU48 (sp.outflow + vOut) }

/-- An entry joins the window as the newest, and the sums rise (R96). -/
def Span.addEntry (sp : Span) (w : WindowEntry) : Span :=
  { sp with window := sp.window ++ [w], wI := sp.wI + w.dI, wV := sp.wV + w.vOut, wE := sp.wE + w.e }

/-- The oldest entry leaves a window of 16, and its values are subtracted from the sums (R96). -/
def Span.dropOldest (sp : Span) : Span :=
  match sp.window with
  | [] => sp
  | w :: rest =>
    if windowSize ≤ sp.window.length then
      { sp with window := rest, wI := sp.wI - w.dI, wV := sp.wV - w.vOut, wE := sp.wE - w.e }
    else sp

/-- An entry pushed into the window (R96). -/
def Span.pushEntry (sp : Span) (w : WindowEntry) : Span := sp.dropOldest.addEntry w

/-- Whether an update is counted: no hold runs, the reading is not ESTIMATED, the drain is not tainted, and the window is
full after the push (R98). -/
def Span.counts (sp : Span) (reading : Flags) (taint : Bool) : Bool :=
  sp.hold.isNone && !reading.estimated && !taint && decide (sp.window.length = windowSize)

/-- The span record after steps 2 to 5 of a balance update (R89 to R92, R96). -/
def Span.weighed (sp : Span) (d : DrainReport) (vOut m vel : Nat) : Span :=
  { ((sp.takeDrain d).takeDeficit (deficitOf d.e m) vOut).pushEntry ⟨deficitOf d.e m, vOut, d.e⟩ with
    vOut := some vel }

/-- The span record after steps 6 and 7: the evidence moved if the update is counted, and the verdict derived either way
(R89, R98). -/
def Span.judged (sp : Span) (t : Thresholds) (reading : Flags) (taint : Bool) : Span :=
  (if sp.counts reading taint then sp.evaluate t else sp).derive

/-- The samples of the portions of a drain report: EXIT_AGE then EXIT_SOLIDS for each, head first (R94). -/
def exitSamples (j : SpanId) (now : LineTime) (portions : List Portion) : List Sample :=
  portions.flatMap fun x =>
    [⟨.exitAge, (now - x.entry).toNat, some j, some x.origin, some x.bank⟩,
      ⟨.exitSolids, x.solids, some j, some x.origin, some x.bank⟩]

/-- The five samples of a balance update, after its portions (R94). -/
def updateSamples (j : SpanId) (sp : Span) (n : Nat) (dI : Int) (shortfall : Nat) : List Sample :=
  [⟨.updateDeficit, dI, some j, none, none⟩,
    ⟨.updateExcess, sp.reportedExcess, some j, none, none⟩,
    ⟨.occupancy, n, some j, none, none⟩,
    ⟨.updates, 1, some j, none, none⟩,
    ⟨.shortfall, shortfall, some j, none, none⟩]

/-- A balance update of span j by a reading of volume V, mass M and result c (R89): drain, record, window, velocity,
counted or not, verdict and its notice, samples. -/
def State.balanceUpdate (s : State) (j : SpanId) (l : SpanLine) (c : Conversion) (m : Nat) : State :=
  let d := drainQueue c.v (s.queue j)
  let sp := ((s.span j).weighed d c.v m (velocity c.v (s.segment l.last).area c.tC)).judged l.thr c.flags d.taint
  ((((s.drained j d).setSpan j sp).announceVerdict j (s.span j).verdict).offerAll
    (exitSamples j s.lineTime d.portions ++ updateSamples j sp d.queue.length (deficitOf d.e m) d.shortfall))

/-- An inflow to span j of a reading from a station (R48, R87, R88). -/
def State.inflowTo (s : State) (j : SpanId) (l : SpanLine) (st : StationId) (bank : BankId) (c : Conversion) (m : Nat) :
    State :=
  if c.v = 0 then s.setSpan j (s.span j).takeIdleInflow
  else
    let vel := velocity c.v (s.segment l.first).area c.tC
    let s1 := s.allocate.2
    let p : Parcel := ⟨s.allocate.1, st, s.lineTime, c.v, m, bank, c.flags.ofInflow (s.span j).hold.isSome⟩
    ((s1.append j p).setSpan j ((s1.span j).takeInflow c.v m vel)).offer ⟨.inflowVelocity, vel, some j, none, none⟩

/-- What SPAN_READ reports of a span (R102). -/
def State.spanReport (s : State) (j : SpanId) (l : SpanLine) : SpanReport :=
  let sp := s.span j
  { id := j
    state := sp.state
    line := l
    n := (s.queue j).length
    q := sp.q
    s := sp.s
    d := sp.d
    o := sp.o
    x := sp.reportedExcess
    inflow := sp.inflow
    outflow := sp.outflow
    i := sp.i
    updates := sp.updates
    epochStart := sp.epochStart
    fill := sp.window.length
    wI := sp.wI
    wV := sp.wV
    wE := sp.wE
    vIn := sp.vIn
    vOut := sp.vOut
    mark := sp.mark
    eLeak := sp.eLeak
    eDep := sp.eDep
    eDrift := sp.eDrift
    verdict := sp.verdict
    latch := sp.latch
    hold := sp.hold }

/-- SPAN_READ (R102). -/
def answerSpanRead (id : Byte) (s : State) : Answer :=
  match s.spanNamed id with
  | none => refuse s .noSpan
  | some (j, l) => ⟨.done, .span (s.spanReport j l), s⟩

/-- The most parcels that one PARCEL_LIST describes (R74). -/
def maxListed : Nat := 12

/-- PARCEL_LIST (R74). -/
def answerParcelList (id : Byte) (start : BitVec 16) (count : Byte) (s : State) : Answer :=
  match s.spanNamed id with
  | none => refuse s .noSpan
  | some (j, _) =>
    if maxListed < count.toNat then refuse s .outOfRange
    else ⟨.done, .parcels j (s.queue j).length start.toNat s.lineTime
      (((s.queue j).drop start.toNat).take count.toNat), s⟩

end Sys2Proof.Machine
end

