-- ==== Sys2Proof/Machine/Conversion.lean ====
section
/-! DEFINITION. Reading intake, conversion, the resolve exchange, the balance arbiter and the application of readings (R23 to
R50). -/

namespace Sys2Proof.Machine

/-- The corrected volume (R32). -/
def correctedVolume (vRaw kQ : Nat) : Nat := (vRaw * kQ + 5000) / 10000

/-- The clamped duration (R32). -/
def clampDuration (t : Nat) : Nat := max 100 (min t 60000)

/-- The volumetric solids fraction of a density, in units of 0.0001 (R34). -/
def solidsFraction (b : Bank) (rhoM : Nat) : Nat := (rhoM - b.rhoW) * 10000 / (b.rhoS - b.rhoW)

/-- The class of a reading: IDLE when V is 0 (R33), else the first test of R34 that holds. -/
def classify (b : Bank) (r : Reading) (v : Nat) : ReadingClass :=
  if v = 0 then .idle
  else if r.flush then .flush
  else if r.fault then .fault
  else if r.rhoM < b.rhoW - b.deltaW then .low
  else if r.rhoM ≤ b.rhoW then .water
  else if solidsFraction b r.rhoM ≤ b.cMax * 10 then .slurry
  else .high

/-- The flags and mass of a last-good hold: the held pair's fraction and mass, or 0 with WATER where no pair is held; always
ESTIMATED (R38). -/
def lastGoodHold (lg : Option Composition) (c : Conversion) : Stage :=
  match lg with
  | none =>
    .ready { c with cBp := some 0, flags := { c.flags with estimated := true, water := true } } 0
  | some g =>
    .ready { c with cBp := some g.cBp, flags := { c.flags with estimated := true } } (massOf c.v g.cBp g.rhoS)

/-- The stage of a reading of a class in a bank, before the mode is looked at: in range or IDLE (R33, R35, R36), or none for
a class out of range. -/
def convertInRange (b : Bank) (r : Reading) (c : Conversion) : Option Stage :=
  match c.cls with
  | .idle => some (.ready { c with cBp := some 0 } 0)
  | .flush => some (.ready { c with cBp := some 0, flags := { c.flags with flush := true, water := true } } 0)
  | .water => some (.ready { c with cBp := some 0, flags := { c.flags with water := true } } 0)
  | .slurry =>
    some (.ready { c with cBp := some (solidsFraction b r.rhoM) } (massOf c.v (solidsFraction b r.rhoM) b.rhoS))
  | .fault | .low | .high => none

/-- The stage of an out-of-range reading in LIMIT mode (R37). -/
def convertLimit (b : Bank) (lg : Option Composition) (c : Conversion) : Stage :=
  match c.cls with
  | .low => .ready { c with cBp := some 0, flags := { c.flags with estimated := true, water := true } } 0
  | .high =>
    .ready { c with cBp := some (b.cMax * 10), flags := { c.flags with estimated := true } }
      (massOf c.v (b.cMax * 10) b.rhoS)
  | _ => lastGoodHold lg c

/-- The corrected volume, clamped duration and class of a reading, with no fraction and no flag yet (R32 to R34). -/
def measured (b : Bank) (r : Reading) : Conversion :=
  let v := correctedVolume r.vRaw b.kQ
  ⟨v, clampDuration r.t, classify b r v, none, Flags.none⟩

/-- The conversion of a reading by its bank and its station's last-good composition (R31 to R39). -/
def convert (b : Bank) (lg : Option Composition) (r : Reading) : Stage :=
  let c := measured b r
  match convertInRange b r c with
  | some stage => stage
  | none =>
    match b.mode with
    | .limit => convertLimit b lg c
    | .refer => .awaiting c

/-- The last-good composition after a conversion: set by WATER and SLURRY, else kept (R36, R37). -/
def lastGoodAfter (b : Bank) (lg : Option Composition) (r : Reading) : Option Composition :=
  match (measured b r).cls with
  | .water => some ⟨0, b.rhoS⟩
  | .slurry => some ⟨solidsFraction b r.rhoM, b.rhoS⟩
  | _ => lg

/-- What raising a resolve does: the timer, the URGENT notice to the station's own port, and the sample (R39). -/
def State.raiseResolve (s : State) (st : StationId) (r : Reading) (c : Conversion) : State :=
  ((s.setStation st { s.station st with resolve := some (expiryAfter s.lineTime s.tRes) }).raise st
    (.resolve st r.tag c.cls r.rhoM c.v r.bank) true).offer ⟨.resolves, 1, none, some st, none⟩

/-- The conversion of the reading that has become head of a station's queue (R31). -/
def State.convertHead (s : State) (st : StationId) : State :=
  match (s.station st).queue with
  | [] => s
  | r :: rest =>
    let b := (s.station st).banks.get r.bank
    let stage := convert b (s.station st).lastGood r
    let s1 := s.setStation st { s.station st with
      queue := { r with stage := stage } :: rest
      lastGood := lastGoodAfter b (s.station st).lastGood r }
    match stage with
    | .awaiting c => s1.raiseResolve st r c
    | _ => s1

/-- The readings a reading queue holds at most (R23). -/
def readingPlaces : Nat := 8

/-- The reading record of an accepted READING (R25, R26). -/
def acceptedReading (x : Station) (vRaw t rhoM : BitVec 16) (flush fault : Bool) : Reading :=
  ⟨x.tag, vRaw.toNat, t.toNat, rhoM.toNat, flush, fault, x.active, .queued⟩

/-- A station with a reading accepted: at the tail of its queue with the new tag, the tag counter advanced, the silence timer
restarted (R25, R26). -/
def State.acceptReading (s : State) (st : StationId) (r : Reading) : State :=
  s.setStation st { s.station st with
    queue := (s.station st).queue ++ [r]
    tag := (s.station st).tag + 1
    silence := some (expiryAfter s.lineTime s.tStale) }

/-- READING (R25). -/
def answerReading (p : PortId) (vRaw t rhoM : BitVec 16) (flush fault : Bool) (s : State) : Answer :=
  if (s.station p).service ≠ .inService then refuse s .outOfService
  else if readingPlaces ≤ (s.station p).queue.length then refuse s .full
  else
    let s1 := s.acceptReading p (acceptedReading (s.station p) vRaw t rhoM flush fault)
    ⟨.done, .tag (s.station p).tag, if (s.station p).queue.isEmpty then s1.convertHead p else s1⟩

/-- The head of a station's queue replaced by one that is READY, its resolve timer stopped and its RESOLVE notice withdrawn
(R40, R41, R178). -/
def State.settleHead (s : State) (st : StationId) (head : Reading) (rest : List Reading) : State :=
  (s.setStation st { s.station st with queue := head :: rest, resolve := none }).withdrawResolve st

/-- RESOLVE_ANSWER (R40). -/
def answerResolve (p : PortId) (tag : Byte) (mAns : BitVec 32) (s : State) : Answer :=
  match (s.station p).queue with
  | [] => refuse s .late
  | r :: rest =>
    match r.stage with
    | .awaiting c =>
      if r.tag = tag then
        let cap := c.v * ((s.station p).banks.get r.bank).rhoS / 1000
        let stage := Stage.ready { c with flags := { c.flags with referred := true } } (min mAns.toNat cap)
        doneWith (s.settleHead p { r with stage := stage } rest)
      else refuse s .late
    | _ => refuse s .late

/-- RESOLVE_EXPIRY: the AWAITING head is converted by a last-good hold and becomes READY (R41). -/
def State.expireResolve (s : State) (st : StationId) : State :=
  match (s.station st).queue with
  | [] => s
  | r :: rest =>
    match r.stage with
    | .awaiting c => s.settleHead st { r with stage := lastGoodHold (s.station st).lastGood c } rest
    | _ => s

/-- RESOLVE_EXPIRY, taken when the resolve timer's expiry is reached (R2, R41; log entries 5 and 6). -/
def execResolveExpiry (st : StationId) (s : State) : Host.Outcome State Fault Refusal :=
  .next (if timerDue s.lineTime (s.station st).resolve then s.expireResolve st else s)

/-- BANK_WRITE (R28). -/
def answerBankWrite (p : PortId) (bank : Byte) (r : BankWire) (s : State) : Answer :=
  match index4 bank, bankOf r with
  | some b, some x => doneWith (s.setStation p { s.station p with banks := (s.station p).banks.set b x })
  | _, _ => refuse s .outOfRange

/-- BANK_SELECT (R29). -/
def answerBankSelect (p : PortId) (bank : Byte) (s : State) : Answer :=
  match index4 bank with
  | some b => doneWith (s.setStation p { s.station p with active := b })
  | none => refuse s .outOfRange

/-- BANK_READ (R30). That a request with a station of N or more and a bank above 3 is answered NO_STATION is the model's
choice: R30 and the table after R187 give both results and no order. DESIGN CHOICE, log entry 20. -/
def answerBankRead (station bank : Byte) (s : State) : Answer :=
  match (index4 station).filter (fun st => s.isConfigured st) with
  | none => refuse s .noStation
  | some st =>
    match index4 bank with
    | none => refuse s .outOfRange
    | some b => ⟨.done, .bank st b (s.station st).active ((s.station st).banks.get b), s⟩

/-- The READY head of a station with its result and mass, if its head is READY (R24). -/
def Station.readyHead (x : Station) : Option (Reading × Conversion × Nat) :=
  match x.queue with
  | [] => none
  | r :: _ =>
    match r.stage with
    | .ready c m => some (r, c, m)
    | _ => none

/-- The ports in the arbiter's search order: from the port after the last granted, wrapping from 3 to 0 (R44). -/
def searchOrder (last : Option PortId) : List PortId :=
  match last with
  | none => allPorts
  | some p => [p + 1, p + 2, p + 3, p]

/-- The port the arbiter grants: the first in its search order with a READY head (R44). -/
def State.grantee (s : State) : Option PortId :=
  (searchOrder s.lastGranted).find? (fun p => (s.station p).readyHead.isSome)

/-- The outflow side: a balance update of span s, if station s is a span end and the span is OPEN (R46, R47). -/
def State.outflowSide (s : State) (st : StationId) (c : Conversion) (m : Nat) : State :=
  match SegId.endingAt st with
  | none => s
  | some j =>
    match (s.span j).line with
    | none => s
    | some l => if (s.span j).state = .opened then s.balanceUpdate j l c m else s

/-- The inflow side: an inflow to the span whose upstream end is the station, if it is OPEN (R46, R48). -/
def State.inflowSide (s : State) (st : StationId) (bank : BankId) (c : Conversion) (m : Nat) : State :=
  match s.spanFedBy st with
  | none => s
  | some j =>
    match (s.span j).line with
    | none => s
    | some l => if (s.span j).state = .opened then s.inflowTo j l st bank c m else s

/-- The head of a station's queue removed, and the reading behind it converted as the new head (R45). -/
def State.removeHead (s : State) (st : StationId) : State :=
  (s.setStation st { s.station st with queue := (s.station st).queue.tail }).convertHead st

/-- A granted reading applied, outflow side first, then removed (R45, R46). -/
def State.applyGrant (s : State) (p : PortId) (r : Reading) (c : Conversion) (m : Nat) : State :=
  ((({ s with lastGranted := some p }).outflowSide p c m).inflowSide p r.bank c m).removeHead p

/-- GRANT: the arbiter grants the next READY head in rotation and the engine applies it whole; with no READY head there is
nothing to grant (R44, R45). -/
def execGrant (s : State) : Host.Outcome State Fault Refusal :=
  .next (match s.grantee with
    | none => s
    | some p =>
      match (s.station p).readyHead with
      | none => s
      | some (r, c, m) => s.applyGrant p r c m)

end Sys2Proof.Machine
end

