-- ==== Sys2Proof/Machine/Spans.lean ====
section
/-! DEFINITION. Service changes and the span lifecycle: open, close, suspend, resume, merge and split (R3 to R7, R13 to
R22). -/

namespace Sys2Proof.Machine

/-- SPAN_OPEN's prime parcel in an allocated record (R14). -/
def primeParcel (i : Nat) (l : SpanLine) (now : LineTime) (cFill : Nat) (x : Station) (holdRuns : Bool) : Parcel :=
  ⟨i, l.upstream, now, l.vSpan, massOf l.vSpan cFill (x.banks.get x.active).rhoS, x.active, Flags.ofPrime cFill holdRuns⟩

/-- The span record that SPAN_OPEN leaves: the prime parcel's totals, D zero, OPEN, an epoch started, the verdict derived
(R14). -/
def Span.openedWith (sp : Span) (now : LineTime) (v m : Nat) : Span :=
  (Span.epoch { sp with q := v, s := m, d := 0, state := .opened } now).derive

/-- SPAN_OPEN of span j passed by its checks (R14). -/
def State.openSpan (s : State) (j : SpanId) (l : SpanLine) (cFill : Nat) : State :=
  let s1 := s.allocate.2
  let p := primeParcel s.allocate.1 l s.lineTime cFill (s.station l.upstream) (s.span j).hold.isSome
  let sp := (s1.span j).openedWith s.lineTime l.vSpan p.solids
  (((s1.append j p).setSpan j sp).raiseSpan j .opened).announceVerdict j (s.span j).verdict

/-- SPAN_OPEN, with its checks in the order of R13. -/
def answerSpanOpen (p : PortId) (id : Byte) (cFill : BitVec 16) (s : State) : Answer :=
  match s.spanNamed id with
  | none => refuse s .noSpan
  | some (j, l) =>
    if p ≠ l.upstream then refuse s .notParty
    else if (s.span j).state ≠ .closed then refuse s .wrongState
    else if !s.bothEndsIn j l then refuse s .endsNotReady
    else if ((s.station p).banks.get (s.station p).active).cMax * 10 < cFill.toNat then refuse s .outOfRange
    else doneWith (s.openSpan j l cFill.toNat)

/-- The closed values of a record that stays present: everything as an absent record holds it but what R12 derives (R11,
R15). -/
def Span.closedOf (sp : Span) : Span := { Span.blank with line := sp.line }

/-- SPAN_CLOSE of an OPEN or SUSPENDED span (R15). -/
def State.closeSpan (s : State) (j : SpanId) : State :=
  (((s.release j).setSpan j (s.span j).closedOf).announceVerdict j (s.span j).verdict).raiseSpan j .closed

/-- SPAN_CLOSE (R15). -/
def answerSpanClose (p : PortId) (id : Byte) (s : State) : Answer :=
  match s.spanNamed id with
  | none => refuse s .noSpan
  | some (j, l) =>
    if !isEndOf p j l then refuse s .notParty
    else if (s.span j).state = .closed then doneWith s
    else doneWith (s.closeSpan j)

/-- The span that has the head or the tail station as an end (R17, R18). -/
def State.spanOfEnd (s : State) (st : StationId) : Option SpanId :=
  if st = 0 then s.spanFedBy 0 else SegId.endingAt st

/-- An OPEN span suspended as its head or tail end leaves service (R17). -/
def State.suspendSpan (s : State) (j : SpanId) : State :=
  if (s.span j).state = .opened then
    ((s.setSpan j (Span.derive { s.span j with state := .suspended })).raiseSpan j .suspended).announceVerdict j
      (s.span j).verdict
  else s

/-- A SUSPENDED span resumed as its head or tail end returns, if its other end is IN_SERVICE (R18). -/
def State.resumeSpan (s : State) (j : SpanId) : State :=
  match (s.span j).line with
  | none => s
  | some l =>
    if (s.span j).state = .suspended ∧ s.bothEndsIn j l = true then
      ((s.setSpan j (Span.epoch { s.span j with state := .opened } s.lineTime).derive).raiseSpan j .resumed).announceVerdict
        j (s.span j).verdict
    else s

/-- The totals, shortfall, latch and hold of a merge of two parts neither of which is CLOSED, in the record of the downstream
part (R20, R79, R80). -/
def Span.mergedWith (down up : Span) (now : LineTime) : Span :=
  { down with
    q := satU48 (down.q + up.q)
    s := satU48 (down.s + up.s)
    d := satU48 (down.d + up.d)
    mark := down.mark || overU48 (down.q + up.q) || overU48 (down.s + up.s) || overU48 (down.d + up.d)
    latch := down.latch || up.latch
    hold := laterHold now down.hold up.hold }

/-- An epoch started on a span, then its state set by its ends, then its verdict derived (R20, R22). -/
def State.restartSpan (s : State) (j : SpanId) : State :=
  s.setSpan j (Span.derive { (s.span j).epoch s.lineTime with state := s.stateByEnds j })

/-- The merge of span k into span j when either part is CLOSED (R19). -/
def State.mergeClosed (s : State) (k j : SpanId) : State :=
  let s1 := if (s.span k).state = .closed then s else s.release k
  let s2 := if (s.span j).state = .closed then s1 else s1.release j
  let s3 := ((s2.setSpan k Span.blank).setSpan j (s.span j).closedOf).rederiveAll
  (s3.announceVerdict j (s.span j).verdict).raiseSpan j .merged

/-- The merge of span k into span j when neither part is CLOSED (R20). -/
def State.mergeOpen (s : State) (k j : SpanId) : State :=
  let s1 := (((s.divert k j).setSpan k Span.blank).setSpan j ((s.span j).mergedWith (s.span k) s.lineTime)).rederiveAll
  ((s1.restartSpan j).raiseSpan j .merged).announceVerdict j (s.span j).verdict

/-- The merge that an interior station's leaving service makes (R19, R20). -/
def State.mergeAt (s : State) (st : StationId) : State :=
  match SegId.endingAt st, s.spanFedBy st with
  | some k, some j =>
    if (s.span k).state = .closed ∨ (s.span j).state = .closed then s.mergeClosed k j else s.mergeOpen k j
  | _, _ => s

/-- A half of a split before its epoch: Q and S from its own queue, D zero, span j's latch, hold and verdict (R22, R127).
Q and S are held at the 48-bit limit (log entry 12). -/
def State.halfOf (s : State) (half : SpanId) (old : Span) : Span :=
  { Span.blank with
    line := (s.span half).line
    q := satU48 (volumeIn (s.queue half))
    s := satU48 (solidsIn (s.queue half))
    latch := old.latch
    hold := old.hold
    verdict := old.verdict }

/-- The split of a CLOSED span j at station k (R21). -/
def State.splitClosed (s : State) (k j : SpanId) : State :=
  (((s.setSpan k Span.blank).rederiveAll).raiseSpan k .split).raiseSpan j .split

/-- The split of an OPEN or SUSPENDED span j at station k: the queue cut at the new V_j, then both halves restarted, span k
first, and the SPAN notices raised, span k first (R22). That span k's VERDICT notice is raised before span j's is the model's
choice: R22 step 8 and R126 give no order. DESIGN CHOICE, log entry 19. -/
def State.splitOpen (s : State) (k j : SpanId) : State :=
  let s1 := (s.setSpan k Span.blank).rederiveAll
  let s2 := s1.splitQueue k j (s1.span j).vSpan
  let s3 := (s2.setSpan k (s2.halfOf k (s.span j))).setSpan j (s2.halfOf j (s.span j))
  let s4 := (s3.restartSpan k).restartSpan j
  (((s4.raiseSpan k .split).raiseSpan j .split).announceVerdict k (s.span j).verdict).announceVerdict j (s.span j).verdict

/-- The split that an interior station's return to service makes (R21, R22). -/
def State.splitAt (s : State) (st : StationId) : State :=
  match SegId.endingAt st with
  | none => s
  | some k =>
    match s.spanContaining k with
    | none => s
    | some j => if (s.span j).state = .closed then s.splitClosed k j else s.splitOpen k j

/-- Whether a station is an end of the line: the head or the tail (R7). -/
def State.isLineEnd (s : State) (st : StationId) : Bool := st == 0 || st.val + 1 == s.n

/-- The effect on the spans of a station's leaving IN_SERVICE (R7). -/
def State.stationLeft (s : State) (st : StationId) : State :=
  if s.isLineEnd st then
    match s.spanOfEnd st with
    | none => s
    | some j => s.suspendSpan j
  else s.mergeAt st

/-- The effect on the spans of a station's return to IN_SERVICE (R7). -/
def State.stationReturned (s : State) (st : StationId) : State :=
  if s.isLineEnd st then
    match s.spanOfEnd st with
    | none => s
    | some j => s.resumeSpan j
  else s.splitAt st

/-- The STATION notice to one port, if it is another configured port than the station's own (R7). -/
def State.tellOther (s : State) (st : StationId) (service : ServiceState) (p : PortId) : State :=
  if s.isConfigured p = true ∧ p ≠ st then s.raise p (.station st service) false else s

/-- The STATION notice to every other configured port (R7). -/
def State.tellOthers (s : State) (st : StationId) (service : ServiceState) : State :=
  allPorts.foldl (fun t p => t.tellOther st service p) s

/-- The new service state and silence timer of a station recorded (R4, R5, R6). -/
def State.recordService (s : State) (st : StationId) (service : ServiceState) (silence : Option LineTime) : State :=
  s.setStation st { s.station st with service := service, silence := silence }

/-- A change of service state with its effects in the order of R7: recorded, told, and, if it takes the station into or out
of IN_SERVICE, the spans changed. -/
def State.changeService (s : State) (st : StationId) (service : ServiceState) (silence : Option LineTime) : State :=
  let s1 := (s.recordService st service silence).tellOthers st service
  if s.inService st = true ∧ service ≠ .inService then s1.stationLeft st
  else if s.inService st = false ∧ service = .inService then s1.stationReturned st
  else s1

/-- STATION_IN (R4). -/
def answerStationIn (p : PortId) (s : State) : Answer :=
  if s.inService p then doneWith s
  else doneWith (s.changeService p .inService (some (expiryAfter s.lineTime s.tStale)))

/-- STATION_OUT (R5). -/
def answerStationOut (p : PortId) (s : State) : Answer :=
  if (s.station p).service = .out then doneWith s else doneWith (s.changeService p .out none)

/-- SILENCE_EXPIRY: an IN_SERVICE station whose silence timer's expiry is reached becomes STALE (R6; log entries 5 and 6). -/
def execSilenceExpiry (st : StationId) (s : State) : Host.Outcome State Fault Refusal :=
  .next (if s.inService st = true ∧ timerDue s.lineTime (s.station st).silence = true then
      s.changeService st .stale none
    else s)

end Sys2Proof.Machine
end

