-- ==== Sys2Proof/Machine/Settings.lean ====
section
/-! DEFINITION. Segment settings agreement (R128 to R142). -/

namespace Sys2Proof.Machine

/-- Whether a station is an end of a segment (R130). -/
def isEndOfSegment (st : StationId) (k : SegId) : Bool := st == k.upStation || st == k.downStation

/-- The other end station of a segment (R132). -/
def otherEnd (st : StationId) (k : SegId) : StationId := if st = k.upStation then k.downStation else k.upStation

/-- A SETTINGS notice, ROUTINE (R142). -/
def State.raiseSettings (s : State) (p : PortId) (k : SegId) (event : SettingsEvent) : State :=
  s.raise p (.settings k event) false

/-- The effects of a changed geometry on the span that contains the segment (R138). -/
def State.geometryEpoch (s : State) (j : SpanId) : State :=
  if (s.span j).state = .closed then s
  else
    ((s.setSpan j ((s.span j).epoch s.lineTime).derive).raiseSpan j .newEpoch).announceVerdict j (s.span j).verdict

/-- Steps 5 and 6 of an application: the containing span re-derived, and the effects of a changed geometry (R137 to
R139). -/
def State.applyToSpan (s : State) (k : SegId) (geometryChanged : Bool) : State :=
  match s.spanContaining k with
  | none => s
  | some j => if geometryChanged then (s.rederive j).geometryEpoch j else s.rederive j

/-- An application of pending settings to a segment (R137). -/
def State.applySettings (s : State) (k : SegId) (x : Settings) : State :=
  let g := s.segment k
  let changed := g.settings.length != x.length || g.settings.dPipe != x.dPipe
  let s1 := s.setSegment k { g.withSettings x with proposal := none }
  (((s1.raiseSettings k.upStation k .applied).raiseSettings k.downStation k .applied).applyToSpan k changed)

/-- A proposal recorded or replaced: proposer, settings, expiry; PROPOSED to the other end (R132). -/
def State.recordProposal (s : State) (p : StationId) (k : SegId) (x : Settings) : State :=
  (s.setSegment k { s.segment k with proposal := some ⟨p, x, expiryAfter s.lineTime s.tAgree⟩ }).raiseSettings
    (otherEnd p k) k .proposed

/-- SETTINGS_PROPOSE (R131, R132). -/
def answerSettingsPropose (p : PortId) (segment : Byte) (r : SettingsWire) (s : State) : Answer :=
  match s.segmentNamed segment with
  | none => refuse s .outOfRange
  | some k =>
    if !isEndOfSegment p k then refuse s .notParty
    else if !(settingsOf r).valid then refuse s .outOfRange
    else
      match (s.segment k).proposal with
      | none => ⟨.done, .outcome .recorded, s.recordProposal p k (settingsOf r)⟩
      | some q =>
        if q.proposer = p then ⟨.done, .outcome .replaced, s.recordProposal p k (settingsOf r)⟩
        else if q.settings = settingsOf r then ⟨.done, .outcome .applied, s.applySettings k q.settings⟩
        else refuse s .conflict

/-- SETTINGS_AGREE (R133). -/
def answerSettingsAgree (p : PortId) (segment : Byte) (r : SettingsWire) (s : State) : Answer :=
  match s.segmentNamed segment with
  | none => refuse s .outOfRange
  | some k =>
    if !isEndOfSegment p k then refuse s .notParty
    else
      match (s.segment k).proposal with
      | none => refuse s .wrongState
      | some q =>
        if q.proposer = p then refuse s .notParty
        else if q.settings = settingsOf r then doneWith (s.applySettings k q.settings)
        else refuse s .mismatch

/-- A pending proposal removed, and its agreement timer with it (R130). -/
def State.removeProposal (s : State) (k : SegId) : State := s.setSegment k { s.segment k with proposal := none }

/-- SETTINGS_WITHDRAW (R134). -/
def answerSettingsWithdraw (p : PortId) (segment : Byte) (s : State) : Answer :=
  match s.segmentNamed segment with
  | none => refuse s .outOfRange
  | some k =>
    if !isEndOfSegment p k then refuse s .notParty
    else
      match (s.segment k).proposal with
      | none => refuse s .wrongState
      | some q =>
        if q.proposer = p then doneWith ((s.removeProposal k).raiseSettings (otherEnd p k) k .withdrawn)
        else refuse s .notParty

/-- SETTINGS_READ (R141). -/
def answerSettingsRead (segment : Byte) (s : State) : Answer :=
  match s.segmentNamed segment with
  | none => refuse s .outOfRange
  | some k =>
    let g := s.segment k
    ⟨.done, .segment k g.settings g.area g.vSeg (s.spanContaining k) g.proposal, s⟩

/-- AGREEMENT_EXPIRY: a pending proposal whose expiry is reached is removed, and EXPIRED raised to its proposer (R135; log
entries 5 and 6). -/
def execAgreementExpiry (k : SegId) (s : State) : Host.Outcome State Fault Refusal :=
  .next (match (s.segment k).proposal with
    | none => s
    | some q =>
      if reached s.lineTime q.expiry then (s.removeProposal k).raiseSettings q.proposer k .expired else s)

end Sys2Proof.Machine
end

