-- ==== Sys2Proof/Machine/Ports.lean ====
section
/-! DEFINITION. Station ports: the receiver, the taking of requests, replies, port restart, STATUS and NOTICE_GET, and the
meaning of every request row (R163 to R179). -/

namespace Sys2Proof.Machine

/-! STATUS and NOTICE_GET. -/

/-- The head state of a reading queue (R23). -/
def Station.headState (x : Station) : HeadState :=
  match x.queue with
  | [] => .empty
  | r :: _ =>
    match r.stage with
    | .awaiting _ => .awaiting
    | _ => .ready

/-- One station's items in STATUS (R173). -/
def Station.statusOf (x : Station) : StationStatus := ⟨x.service, x.queue.length, x.headState⟩

/-- Whether a span record is present. -/
def State.isPresent (s : State) (j : SpanId) : Bool := (s.span j).line.isSome

/-- STATUS (R173). -/
def answerStatus (s : State) : Answer :=
  ⟨.done, .status s.config s.lineTime s.n
    ⟨(s.station 0).statusOf, (s.station 1).statusOf, (s.station 2).statusOf, (s.station 3).statusOf⟩ s.free.length
    ⟨s.isPresent .one, s.isPresent .two, s.isPresent .three⟩, s⟩

/-- NOTICE_GET: the oldest URGENT notice, else the oldest ROUTINE one, removed and returned with the number left; EMPTY
from an empty queue (R177). -/
def answerNoticeGet (p : PortId) (s : State) : Answer :=
  match (s.port p).urgent, (s.port p).routine with
  | x :: urgent, routine =>
    ⟨.done, .notice x true (urgent.length + routine.length), s.setPort p ((s.port p).withNotices urgent routine)⟩
  | [], x :: routine => ⟨.done, .notice x false routine.length, s.setPort p ((s.port p).withNotices [] routine)⟩
  | [], [] => refuse s .empty

/-! Taking a request. -/

/-- The owning block's answer to a request from the station of a port (R167). -/
def answerTo (p : PortId) (r : Request) (s : State) : Answer :=
  match r with
  | .status => answerStatus s
  | .stationIn => answerStationIn p s
  | .stationOut => answerStationOut p s
  | .reading v t rho flush fault => answerReading p v t rho flush fault s
  | .resolveAnswer tag mAns => answerResolve p tag mAns s
  | .bankWrite bank record => answerBankWrite p bank record s
  | .bankSelect bank => answerBankSelect p bank s
  | .bankRead station bank => answerBankRead station bank s
  | .spanOpen j c => answerSpanOpen p j c s
  | .spanClose j => answerSpanClose p j s
  | .spanRead j => answerSpanRead j s
  | .parcelList j start count => answerParcelList j start count s
  | .verdictClear j => answerVerdictClear p j s
  | .settingsPropose k record => answerSettingsPropose p k record s
  | .settingsAgree k record => answerSettingsAgree p k record s
  | .settingsWithdraw k => answerSettingsWithdraw p k s
  | .settingsRead k => answerSettingsRead k s
  | .watchClaim => answerWatchClaim p s
  | .watchSet i record => answerWatchSet p i record s
  | .watchRead i => answerWatchRead i s
  | .watchRelease i => answerWatchRelease p i s
  | .watchFreeze => answerWatchFreeze p s
  | .watchThaw => answerWatchThaw p s
  | .noticeGet => answerNoticeGet p s

/-- The port's screen of a request of known kind and allowed length: UNCONFIGURED, then NO_STATION at an unused port; STATUS
passes both (checks 3 and 4 of R167). -/
def State.screen (s : State) (p : PortId) (r : Request) : Option Result :=
  if r = .status then none
  else if s.config = .unconfigured then some .unconfigured
  else if s.isConfigured p then none
  else some .noStation

/-- Whether a port's reply buffer holds 4 replies (R167). -/
def State.bufferFull (s : State) (p : PortId) : Bool := replyPlaces ≤ (s.port p).replies.length

/-- A request taken, screened, answered by its owning block, and its one reply placed in the buffer (R167, R168). -/
def State.takeRequest (s : State) (p : PortId) (r : Request) : State :=
  match s.screen p r with
  | some code => s.reply p r.kind code .none
  | none => (answerTo p r s).state.reply p r.kind (answerTo p r s).result (answerTo p r s).body

/-- A frame of a kind and payload whose check matches, offered to the port: discarded unanswered if the buffer holds 4
replies, else taken and screened in the order of R167. -/
def State.offerFrame (s : State) (p : PortId) (kind : Byte) (payload : List Byte) : State :=
  if s.bufferFull p then s
  else
    match payloadLength kind, parseRequest kind payload with
    | some n, some r => if payload.length = n then s.takeRequest p r else s.reply p kind .malformed .none
    | _, _ => s.reply p kind .unknownKind .none

/-- Whether a receiver receives frames: not IDLE (LOADING), and not waiting for the line to return to mark (R164, R171). -/
def Receiver.listening : Receiver → Bool
  | .idle => false
  | .awaitMark => false
  | _ => true

/-- A port's receiver replaced. -/
def State.setRx (s : State) (p : PortId) (rx : Receiver) : State := s.setPort p { s.port p with rx := rx }

/-- The completion at a port of a frame of a known kind, its length and a matching check: the receiver returns to HUNT and
the request is offered (R166, R167). A receiver that receives nothing completes no frame (log entry 3). -/
def State.completeRequest (s : State) (p : PortId) (r : Request) : State :=
  if (s.port p).rx.listening then
    if s.bufferFull p then s.setRx p .hunt else (s.setRx p .hunt).takeRequest p r
  else s

/-! The receiver. -/

/-- Both check bytes of a frame received, low byte first (R166): the frame is complete, the receiver returns to HUNT, and
the frame is offered if its check matches, else discarded. -/
def State.completeFrame (s : State) (p : PortId) (data : List Byte) (check : BitVec 16) (low high : Byte) : State :=
  if high ++ low = check then
    match data with
    | [] => s.setRx p .hunt
    | kind :: payload => (s.setRx p .hunt).offerFrame p kind payload
  else s.setRx p .hunt

/-- A byte at a receiver (R164). -/
def State.receive (s : State) (p : PortId) (b : Byte) : State :=
  match (s.port p).rx with
  | .idle => s
  | .awaitMark => s
  | .hunt => if b = syncByte then s.setRx p .length else s
  | .length =>
    if 1 ≤ b.toNat ∧ b.toNat ≤ 241 then s.setRx p (.body b.toNat [] (crc16Byte crc16Init b)) else s.setRx p .hunt
  | .body left data check =>
    if left ≤ 1 then s.setRx p (.check (data ++ [b]) (crc16Byte check b) none)
    else s.setRx p (.body (left - 1) (data ++ [b]) (crc16Byte check b))
  | .check data check none => s.setRx p (.check data check (some b))
  | .check data check (some low) => s.completeFrame p data check low b

/-- A frame being assembled abandoned, and the receiver back in HUNT; a receiver in HUNT stays there, one that receives
nothing stays as it is (R165). -/
def State.abandonFrame (s : State) (p : PortId) : State := if (s.port p).rx.listening then s.setRx p .hunt else s

/-- BYTE_RECEIVED (R164, R166, R167). -/
def execByteReceived (p : PortId) (b : Byte) (s : State) : Host.Outcome State Fault Refusal := .next (s.receive p b)

/-- FRAME_GAP (R165). -/
def execFrameGap (p : PortId) (s : State) : Host.Outcome State Fault Refusal := .next (s.abandonFrame p)

/-- FRAMING_ERROR: the frame is abandoned and the byte discarded (R165). -/
def execFramingError (p : PortId) (s : State) : Host.Outcome State Fault Refusal := .next (s.abandonFrame p)

/-- FRAME_DISCARD: a frame completes whose check does not match; it has no effect and no reply (R166). -/
def execFrameDiscard (p : PortId) (s : State) : Host.Outcome State Fault Refusal := .next (s.abandonFrame p)

/-- FRAME_UNANSWERED: a frame with a matching check completes while the buffer holds 4 replies, and is discarded (R167).
With room in the buffer this event does not arise (log entry 5). -/
def execFrameUnanswered (p : PortId) (s : State) : Host.Outcome State Fault Refusal :=
  .next (if s.bufferFull p then s.abandonFrame p else s)

/-- UNKNOWN_KIND: a frame of the kind and no payload completes with a matching check; a kind that is no request kind is
answered UNKNOWN_KIND (R167). -/
def execUnknownKind (p : PortId) (kind : Byte) (s : State) : Host.Outcome State Fault Refusal :=
  .next (if (s.port p).rx.listening then (s.setRx p .hunt).offerFrame p kind [] else s)

/-- A port after a restart: the frame abandoned and the return to mark awaited, every reply dropped, every notice removed,
the attention line high (R171). Rate and trip level stay. -/
def Port.restarted (p : Port) : Port := { p with rx := .awaitMark, replies := [], urgent := [], routine := [], attn := .high }

/-- A station after a restart of its port: the reading queue dropped and a running resolve timer stopped (R43). -/
def Station.queueDropped (x : Station) : Station := { x with queue := [], resolve := none }

/-- PORT_RESTART: while CONFIGURED or UNCONFIGURED a break restarts the port, once for a break (R171). While LOADING no
break is detected (R163). -/
def execPortRestart (p : PortId) (s : State) : Host.Outcome State Fault Refusal :=
  .next (if s.config = .loading ∨ (s.port p).rx = .awaitMark then s
    else (s.setPort p (s.port p).restarted).setStation p (s.station p).queueDropped)

/-- RETURN_TO_MARK: after a break the receiver enters HUNT (R171). -/
def execReturnToMark (p : PortId) (s : State) : Host.Outcome State Fault Refusal :=
  .next (if (s.port p).rx = .awaitMark then s.setRx p .hunt else s)

/-- REPLY_SENT: the reply at the front, sent whole, leaves the buffer (R168). -/
def execReplySent (p : PortId) (s : State) : Host.Outcome State Fault Refusal :=
  .next (s.setPort p { s.port p with replies := (s.port p).replies.tail })

/-! The request rows: each is the completion of its frame at the port (log entry 3). -/

/-- STATUS (R173). -/
def execStatus (p : PortId) (s : State) : Host.Outcome State Fault Refusal := .next (s.completeRequest p .status)

/-- STATION_IN (R4). -/
def execStationIn (p : PortId) (s : State) : Host.Outcome State Fault Refusal := .next (s.completeRequest p .stationIn)

/-- STATION_OUT (R5). -/
def execStationOut (p : PortId) (s : State) : Host.Outcome State Fault Refusal := .next (s.completeRequest p .stationOut)

/-- READING (R25). -/
def execReading (p : PortId) (vRaw t rhoM : BitVec 16) (flush fault : Bool) (s : State) :
    Host.Outcome State Fault Refusal :=
  .next (s.completeRequest p (.reading vRaw t rhoM flush fault))

/-- RESOLVE_ANSWER (R40). -/
def execResolveAnswer (p : PortId) (tag : BitVec 8) (mAns : BitVec 32) (s : State) : Host.Outcome State Fault Refusal :=
  .next (s.completeRequest p (.resolveAnswer tag mAns))

/-- BANK_WRITE (R28). -/
def execBankWrite (p : PortId) (bank : BitVec 8) (record : BankWire) (s : State) : Host.Outcome State Fault Refusal :=
  .next (s.completeRequest p (.bankWrite bank record))

/-- BANK_SELECT (R29). -/
def execBankSelect (p : PortId) (bank : BitVec 8) (s : State) : Host.Outcome State Fault Refusal :=
  .next (s.completeRequest p (.bankSelect bank))

/-- BANK_READ (R30). -/
def execBankRead (p : PortId) (station bank : BitVec 8) (s : State) : Host.Outcome State Fault Refusal :=
  .next (s.completeRequest p (.bankRead station bank))

/-- SPAN_OPEN (R13, R14). -/
def execSpanOpen (p : PortId) (span : BitVec 8) (cFill : BitVec 16) (s : State) : Host.Outcome State Fault Refusal :=
  .next (s.completeRequest p (.spanOpen span cFill))

/-- SPAN_CLOSE (R15). -/
def execSpanClose (p : PortId) (span : BitVec 8) (s : State) : Host.Outcome State Fault Refusal :=
  .next (s.completeRequest p (.spanClose span))

/-- SPAN_READ (R102). -/
def execSpanRead (p : PortId) (span : BitVec 8) (s : State) : Host.Outcome State Fault Refusal :=
  .next (s.completeRequest p (.spanRead span))

/-- PARCEL_LIST (R74). -/
def execParcelList (p : PortId) (span : BitVec 8) (start : BitVec 16) (count : BitVec 8) (s : State) :
    Host.Outcome State Fault Refusal :=
  .next (s.completeRequest p (.parcelList span start count))

/-- VERDICT_CLEAR (R124). -/
def execVerdictClear (p : PortId) (span : BitVec 8) (s : State) : Host.Outcome State Fault Refusal :=
  .next (s.completeRequest p (.verdictClear span))

/-- SETTINGS_PROPOSE (R131, R132). -/
def execSettingsPropose (p : PortId) (segment : BitVec 8) (record : SettingsWire) (s : State) :
    Host.Outcome State Fault Refusal :=
  .next (s.completeRequest p (.settingsPropose segment record))

/-- SETTINGS_AGREE (R133). -/
def execSettingsAgree (p : PortId) (segment : BitVec 8) (record : SettingsWire) (s : State) :
    Host.Outcome State Fault Refusal :=
  .next (s.completeRequest p (.settingsAgree segment record))

/-- SETTINGS_WITHDRAW (R134). -/
def execSettingsWithdraw (p : PortId) (segment : BitVec 8) (s : State) : Host.Outcome State Fault Refusal :=
  .next (s.completeRequest p (.settingsWithdraw segment))

/-- SETTINGS_READ (R141). -/
def execSettingsRead (p : PortId) (segment : BitVec 8) (s : State) : Host.Outcome State Fault Refusal :=
  .next (s.completeRequest p (.settingsRead segment))

/-- WATCH_CLAIM (R145). -/
def execWatchClaim (p : PortId) (s : State) : Host.Outcome State Fault Refusal := .next (s.completeRequest p .watchClaim)

/-- WATCH_SET (R147, R148). -/
def execWatchSet (p : PortId) (index : BitVec 8) (record : WatchWire) (s : State) : Host.Outcome State Fault Refusal :=
  .next (s.completeRequest p (.watchSet index record))

/-- WATCH_READ (R149). -/
def execWatchRead (p : PortId) (index : BitVec 8) (s : State) : Host.Outcome State Fault Refusal :=
  .next (s.completeRequest p (.watchRead index))

/-- WATCH_RELEASE (R146). -/
def execWatchRelease (p : PortId) (index : BitVec 8) (s : State) : Host.Outcome State Fault Refusal :=
  .next (s.completeRequest p (.watchRelease index))

/-- WATCH_FREEZE (R150). -/
def execWatchFreeze (p : PortId) (s : State) : Host.Outcome State Fault Refusal :=
  .next (s.completeRequest p .watchFreeze)

/-- WATCH_THAW (R151). -/
def execWatchThaw (p : PortId) (s : State) : Host.Outcome State Fault Refusal := .next (s.completeRequest p .watchThaw)

/-- NOTICE_GET (R177). -/
def execNoticeGet (p : PortId) (s : State) : Host.Outcome State Fault Refusal := .next (s.completeRequest p .noticeGet)

end Sys2Proof.Machine
end

