-- ==== Sys2Proof/Machine/Startup.lean ====
section
/-! DEFINITION. Reset, the configuration image and line time (R1, R180 to R185, R190). -/

namespace Sys2Proof.Machine

/-- What a serial memory answers to a command on SDO: to the read command, its contents from the three-byte address on;
to any other, nothing (R181). -/
def serialAnswer (command memory : List Byte) : List Byte :=
  match command with
  | [op, high, mid, low] =>
    if op = 0x03 then memory.drop (high.toNat * 65536 + mid.toNat * 256 + low.toNat) else []
  | _ => []

/-- The number of bytes the loader reads (R190). -/
def imageSize : Nat := 249

/-- The 249 bytes the loader reads of an answer: those that it has, and what SDI presents past its end (R181; log entry
10). No byte beyond offset 248 is read (R190). -/
def readBytes (answer : List Byte) : List Byte :=
  answer.take imageSize ++ (List.range (imageSize - answer.length)).map (fun i => Config.sdiByte (answer.length + i))

/-- The image that the loader reads from a serial memory by its read command (R181). -/
def imageRead (memory : List Byte) : List Byte := readBytes (serialAnswer imageReadCommand memory)

/-- One bit of the image check: polynomial 0x04C11DB7 with bytes least significant bit first (R182). -/
def crc32Bit (c : BitVec 32) : BitVec 32 := if c.getLsbD 0 then (c >>> 1) ^^^ 0xEDB88320#32 else c >>> 1

/-- One byte taken into the image check (R182). -/
def crc32Byte (c : BitVec 32) (b : Byte) : BitVec 32 := Nat.repeat crc32Bit 8 (c ^^^ b.setWidth 32)

/-- The image check over a run of bytes: initial value all ones, final value inverted (R182). -/
def crc32 (bytes : List Byte) : BitVec 32 := ~~~ (bytes.foldl crc32Byte 0xFFFFFFFF#32)

/-- The identifier of an image (R190). -/
def imageIdentifier : List Byte := [0x4B, 0x56, 0x4A, 0x4C]

/-- The settings record of segment k in an image (R190). -/
def imageSettings (img : List Byte) (k : SegId) : Settings := settingsOf (settingsAt img (15 + 22 * (k.num - 1)))

/-- Bank b of station st in an image, if it is valid (R190, R27). -/
def imageBank (img : List Byte) (st : StationId) (b : BankId) : Option Bank :=
  bankOf (bankAt img (81 + 40 * st.val + 10 * b.val))

/-- The active bank of a station in an image, if it is 0 to 3 (R190). -/
def imageActive (img : List Byte) (st : StationId) : Option BankId := index4 (fieldAt 8 img (241 + st.val) 1)

/-- The link rate of a port in an image, if its code is one of the seven (R190). -/
def imageRate (img : List Byte) (p : PortId) : Option LinkRate := linkRateOf (fieldAt 8 img (6 + p.val) 1)

/-- N in an image (R190). -/
def imageN (img : List Byte) : Nat := leNat ((img.drop 5).take 1)

/-- A timer field: 0 takes the default (R182). -/
def timerOf (field dflt : Nat) : Nat := if field = 0 then dflt else field

/-- T_stale's field in an image. -/
def imageTStale (img : List Byte) : Nat := leNat ((img.drop 10).take 1)

/-- T_res's field in an image. -/
def imageTRes (img : List Byte) : Nat := leNat ((img.drop 11).take 1)

/-- T_agree's field in an image. -/
def imageTAgree (img : List Byte) : Nat := leNat ((img.drop 12).take 2)

/-- T_trip's field in an image. -/
def imageTTrip (img : List Byte) : Nat := leNat ((img.drop 14).take 1)

/-- Whether a timer field is 0 or in its range (check 6 of R182). -/
def timerFieldOk (a b x : Nat) : Bool := x == 0 || within a b x

/-- Whether the four banks of a station are valid (check 8 of R182). -/
def stationBanksOk (img : List Byte) (st : StationId) : Bool := allPorts.all (fun b => (imageBank img st b).isSome)

/-- The nine checks of R182, in its order. -/
def imageChecks (img : List Byte) : List Bool :=
  [img.take 4 == imageIdentifier,
    (img.drop 4).take 1 == [1],
    crc32 (img.take 245) == fieldAt 32 img 245 4,
    within 2 4 (imageN img),
    allPorts.all (fun p => (imageRate img p).isSome),
    timerFieldOk 5 255 (imageTStale img) && timerFieldOk 1 60 (imageTRes img) &&
      timerFieldOk 10 600 (imageTAgree img) && timerFieldOk 1 120 (imageTTrip img),
    SegId.all.all (fun k => !decide (k.num < imageN img) || (imageSettings img k).valid),
    allPorts.all (fun st => !decide (st.val < imageN img) || stationBanksOk img st),
    allPorts.all (fun st => !decide (st.val < imageN img) || (imageActive img st).isSome)]

/-- Whether an image is accepted: every check passes (R182). -/
def imageAccepted (img : List Byte) : Bool := (imageChecks img).all id

/-- The four banks of a station in an accepted image. -/
def imageBanks (img : List Byte) (st : StationId) : Quad Bank :=
  ⟨(imageBank img st 0).getD Bank.zero, (imageBank img st 1).getD Bank.zero, (imageBank img st 2).getD Bank.zero,
    (imageBank img st 3).getD Bank.zero⟩

/-- A station at the acceptance of an image: a configured one becomes OUT with its banks and active bank, the others stay
as they are (R3, R27, R183). -/
def State.loadStation (s : State) (img : List Byte) (st : StationId) : State :=
  if st.val < imageN img then
    s.setStation st { s.station st with
      service := .out
      silence := none
      banks := imageBanks img st
      active := (imageActive img st).getD 0 }
  else s

/-- A segment at the acceptance of an image: one from 1 to N-1 takes its settings and derives its geometry; the others are
ignored (R8, R9, R183). -/
def State.loadSegment (s : State) (img : List Byte) (k : SegId) : State :=
  if k.num < imageN img then s.setSegment k ((s.segment k).withSettings (imageSettings img k)) else s

/-- A port as configuration completes: its rate, its receiver in HUNT (R163, R183). -/
def State.startPort (s : State) (p : PortId) (rate : Option LinkRate) : State :=
  s.setPort p { s.port p with rate := rate, rx := .hunt }

/-- A trip input's qualified level set to HIGH as configuration completes (R104). -/
def State.resetTrip (s : State) (p : PortId) : State := s.setPort p { s.port p with trip := .high }

/-- The scalars that an accepted image supplies, line time at 0, and SCS raised (R1, R181 to R183). -/
def State.loadScalars (s : State) (img : List Byte) : State :=
  { s with
    config := .configured
    n := imageN img
    lineTime := 0
    tStale := timerOf (imageTStale img) 30
    tRes := timerOf (imageTRes img) 10
    tAgree := timerOf (imageTAgree img) 120
    tTrip := timerOf (imageTTrip img) 20
    scs := .high
    sdo := [] }

/-- The acceptance of an image: every block takes its contents, the span table forms span N-1, and every receiver hunts at
its rate (R183). -/
def State.accept (s : State) (img : List Byte) : State :=
  let s1 := allPorts.foldl (fun t st => t.loadStation img st) (s.loadScalars img)
  let s2 := SegId.all.foldl (fun t k => t.loadSegment img k) s1
  let s3 := s2.rederiveAll
  allPorts.foldl (fun t p => (t.startPort p (imageRate img p)).resetTrip p) s3

/-- The refusal of an image: UNCONFIGURED, every port hunting at 19 200 bit/s, every block at its reset values (R185). -/
def State.refuseImage (s : State) : State :=
  allPorts.foldl (fun t p => t.startPort p (some .r19200)) { s with config := .unconfigured, scs := .high, sdo := [] }

/-- Whether what a serial memory supplies is accepted. An absent memory supplies nothing, and whatever SDI then presents is
refused at the first check (R181). -/
def memoryAccepted (memory : List Byte) : Bool := !memory.isEmpty && imageAccepted (imageRead memory)

/-- IMAGE_READ_COMPLETE: in LOADING the last byte is read and the image validated, accepted or refused (R181, R182). The
image is read at no other time (R184; log entry 5). -/
def execImageReadComplete (memory : List Byte) (s : State) : Host.Outcome State Fault Refusal :=
  .next (if s.config ≠ .loading then s
    else if memoryAccepted memory then s.accept (imageRead memory)
    else s.refuseImage)

/-- RESET: every block takes its reset values and the part enters LOADING (R180). The queue of waiting commands is the
model's own and stays (log entry 1). -/
def execReset (s : State) : Host.Outcome State Fault Refusal := .next { State.reset with pending := s.pending }

/-- LINE_TIME_TICK: while CONFIGURED line time rises by 1 and wraps; in LOADING and UNCONFIGURED it stays at 0 (R1). -/
def execLineTimeTick (s : State) : Host.Outcome State Fault Refusal :=
  .next (if s.config = .configured then { s with lineTime := s.lineTime + 1 } else s)

end Sys2Proof.Machine
end

