-- ==== Sys2Proof/Machine/Dispatch.lean ====
section
/-! DEFINITION. The meaning of every command: one arm per constructor of Instr. -/

namespace Sys2Proof.Machine

/-- The effect of a command on everything but the queue of waiting commands. -/
def exec (i : Instr) (s : State) : Host.Outcome State Fault Refusal :=
  match i with
  | .reset => Sys2Proof.Machine.execReset s
  | .imageReadComplete image => Sys2Proof.Machine.execImageReadComplete image s
  | .lineTimeTick => Sys2Proof.Machine.execLineTimeTick s
  | .silenceExpiry station => Sys2Proof.Machine.execSilenceExpiry station s
  | .resolveExpiry station => Sys2Proof.Machine.execResolveExpiry station s
  | .agreementExpiry segment => Sys2Proof.Machine.execAgreementExpiry segment s
  | .holdExpiry span => Sys2Proof.Machine.execHoldExpiry span s
  | .tripFallingEdge port => Sys2Proof.Machine.execTripFallingEdge port s
  | .tripRelease port => Sys2Proof.Machine.execTripRelease port s
  | .frameGap port => Sys2Proof.Machine.execFrameGap port s
  | .framingError port => Sys2Proof.Machine.execFramingError port s
  | .frameDiscard port => Sys2Proof.Machine.execFrameDiscard port s
  | .frameUnanswered port => Sys2Proof.Machine.execFrameUnanswered port s
  | .unknownKind port kind => Sys2Proof.Machine.execUnknownKind port kind s
  | .portRestart port => Sys2Proof.Machine.execPortRestart port s
  | .replySent port => Sys2Proof.Machine.execReplySent port s
  | .status port => Sys2Proof.Machine.execStatus port s
  | .stationIn port => Sys2Proof.Machine.execStationIn port s
  | .stationOut port => Sys2Proof.Machine.execStationOut port s
  | .reading port vRaw t rhoM flush fault => Sys2Proof.Machine.execReading port vRaw t rhoM flush fault s
  | .resolveAnswer port tag mAns => Sys2Proof.Machine.execResolveAnswer port tag mAns s
  | .bankWrite port bank record => Sys2Proof.Machine.execBankWrite port bank record s
  | .bankSelect port bank => Sys2Proof.Machine.execBankSelect port bank s
  | .bankRead port station bank => Sys2Proof.Machine.execBankRead port station bank s
  | .grant => Sys2Proof.Machine.execGrant s
  | .spanOpen port span cFill => Sys2Proof.Machine.execSpanOpen port span cFill s
  | .spanClose port span => Sys2Proof.Machine.execSpanClose port span s
  | .spanRead port span => Sys2Proof.Machine.execSpanRead port span s
  | .parcelList port span start count => Sys2Proof.Machine.execParcelList port span start count s
  | .verdictClear port span => Sys2Proof.Machine.execVerdictClear port span s
  | .settingsPropose port segment record => Sys2Proof.Machine.execSettingsPropose port segment record s
  | .settingsAgree port segment record => Sys2Proof.Machine.execSettingsAgree port segment record s
  | .settingsWithdraw port segment => Sys2Proof.Machine.execSettingsWithdraw port segment s
  | .settingsRead port segment => Sys2Proof.Machine.execSettingsRead port segment s
  | .watchClaim port => Sys2Proof.Machine.execWatchClaim port s
  | .watchSet port index record => Sys2Proof.Machine.execWatchSet port index record s
  | .watchRead port index => Sys2Proof.Machine.execWatchRead port index s
  | .watchRelease port index => Sys2Proof.Machine.execWatchRelease port index s
  | .watchFreeze port => Sys2Proof.Machine.execWatchFreeze port s
  | .watchThaw port => Sys2Proof.Machine.execWatchThaw port s
  | .noticeGet port => Sys2Proof.Machine.execNoticeGet port s
  | .byteReceived port byte => Sys2Proof.Machine.execByteReceived port byte s
  | .returnToMark port => Sys2Proof.Machine.execReturnToMark port s

end Sys2Proof.Machine
end

