-- ==== Sys2Proof/WellFormed.lean ====
section
/-! DEFINITION. When a command is one that the outside world can send. An ill-formed command still runs: see the
docstrings of the two meanings. -/

namespace Sys2Proof

/-- The fixed length of the configuration image (R190). -/
def imageLength : Nat := 249

/-- IMAGE_READ_COMPLETE carries the whole image (R190), or nothing where the memory is absent (R181), and UNKNOWN_KIND a byte
that is no request kind (R167). Every other field is as wide as its frame carries it (R187), so it has no value out of
range. -/
def Instr.wellFormed : Instr → Bool
  | .imageReadComplete image => image.isEmpty || image.length == imageLength
  | .unknownKind _ kind => !isRequestKind kind
  | .reset | .lineTimeTick | .silenceExpiry _ | .resolveExpiry _ | .agreementExpiry _ | .holdExpiry _ => true
  | .tripFallingEdge _ | .tripRelease _ | .frameGap _ | .framingError _ | .frameDiscard _ | .frameUnanswered _ => true
  | .portRestart _ | .replySent _ | .byteReceived _ _ | .returnToMark _ | .grant => true
  | .status _ | .stationIn _ | .stationOut _ | .reading _ _ _ _ _ _ | .resolveAnswer _ _ _ => true
  | .bankWrite _ _ _ | .bankSelect _ _ | .bankRead _ _ _ => true
  | .spanOpen _ _ _ | .spanClose _ _ | .spanRead _ _ | .parcelList _ _ _ _ | .verdictClear _ _ => true
  | .settingsPropose _ _ _ | .settingsAgree _ _ _ | .settingsWithdraw _ _ | .settingsRead _ _ => true
  | .watchClaim _ | .watchSet _ _ _ | .watchRead _ _ | .watchRelease _ _ | .watchFreeze _ | .watchThaw _ => true
  | .noticeGet _ => true

end Sys2Proof
end

