-- ==== Sys2Proof/Safety.lean ====
section
/-! DEFINITION. What claims speak of: when a port takes a request, what an answered command leaves alone, and the
invariants of the part. -/

namespace Sys2Proof.Machine

/-! Taking a request. -/

/-- A port hears a frame and has a place for its reply (R164, R167). -/
def State.hears (s : State) (p : PortId) : Prop := (s.port p).rx.listening = true ∧ s.bufferFull p = false

/-- A port takes a request and hands it to its owning block: CONFIGURED, in use, hearing (R167). -/
def State.takes (s : State) (p : PortId) : Prop := s.config = .configured ∧ s.isConfigured p = true ∧ s.hears p

/-- The state with a port's receiver back in HUNT and a reply at the tail of its buffer: what every answered command does to
its own port (R166, R168). -/
def State.answered (s : State) (p : PortId) (kind : Byte) (result : Result) (body : ReplyBody) : State :=
  s.setPort p { s.port p with rx := .hunt, replies := (s.port p).replies ++ [⟨kind, result, body⟩] }

/-- The keys of a port's notice queue, URGENT part first. -/
def Port.keys (p : Port) : List NoticeKey := (p.urgent ++ p.routine).map Notice.key

/-- A port holds a notice raised to it since a port before: in its URGENT part where it was raised URGENT or its key was held
there, else in its ROUTINE part (R175, R176). -/
def Port.tells (before after : Port) (body : NoticeBody) (urgent : Bool) : Prop :=
  if urgent = true ∨ holdsKey body.key before.urgent = true then ∃ x ∈ after.urgent, x.body = body
  else ∃ x ∈ after.routine, x.body = body

/-- A port holds a notice raised to it as ROUTINE (R174). -/
def State.told (s t : State) (p : PortId) (body : NoticeBody) : Prop := (s.port p).tells (t.port p) body false

/-- A port with its notice queue and attention line aside. -/
def Port.linkOf (p : Port) : Option LinkRate × Receiver × List Reply × Level := (p.rate, p.rx, p.replies, p.trip)

/-- The command that is the completion, at a port, of a request's frame: the request's row of the opcode table. -/
def requestRow (p : PortId) : Request → Instr
  | .status => .status p
  | .stationIn => .stationIn p
  | .stationOut => .stationOut p
  | .reading vRaw t rhoM flush fault => .reading p vRaw t rhoM flush fault
  | .resolveAnswer tag mAns => .resolveAnswer p tag mAns
  | .bankWrite bank record => .bankWrite p bank record
  | .bankSelect bank => .bankSelect p bank
  | .bankRead station bank => .bankRead p station bank
  | .spanOpen span cFill => .spanOpen p span cFill
  | .spanClose span => .spanClose p span
  | .spanRead span => .spanRead p span
  | .parcelList span start count => .parcelList p span start count
  | .verdictClear span => .verdictClear p span
  | .settingsPropose segment record => .settingsPropose p segment record
  | .settingsAgree segment record => .settingsAgree p segment record
  | .settingsWithdraw segment => .settingsWithdraw p segment
  | .settingsRead segment => .settingsRead p segment
  | .watchClaim => .watchClaim p
  | .watchSet index record => .watchSet p index record
  | .watchRead index => .watchRead p index
  | .watchRelease index => .watchRelease p index
  | .watchFreeze => .watchFreeze p
  | .watchThaw => .watchThaw p
  | .noticeGet => .noticeGet p

/-- The commands of a list executed in order; none once one of them faults or is refused. -/
def execAll : List Instr → State → Option State
  | [], s => some s
  | c :: cs, s =>
    match exec c s with
    | .next t => execAll cs t
    | .fault _ => none
    | .refused _ => none

/-! Service changes, epochs and turns, in the words of their rules. -/

/-- A command takes a station out of IN_SERVICE: its STATION_OUT, or its silence timer's expiry (R5, R6). -/
def State.leavesBy (s : State) (c : Instr) (st : StationId) : Prop :=
  s.inService st = true ∧
    ((c = .stationOut st ∧ s.takes st) ∨ (c = .silenceExpiry st ∧ timerDue s.lineTime (s.station st).silence = true))

/-- A command takes a station into IN_SERVICE: its STATION_IN (R4). -/
def State.returnsBy (s : State) (c : Instr) (st : StationId) : Prop :=
  s.inService st = false ∧ c = .stationIn st ∧ s.takes st

/-- A span record holds the values of an epoch started at a line time, O being its own excess within the signed
48-bit range, and the mark set when that is passed (R84). -/
def Span.epochStarted (sp : Span) (now : LineTime) : Prop :=
  sp.epochStart = now ∧ sp.inflow = 0 ∧ sp.outflow = 0 ∧ sp.i = 0 ∧ sp.updates = 0 ∧
    sp.window = [] ∧ sp.wI = 0 ∧ sp.wV = 0 ∧ sp.wE = 0 ∧ sp.eLeak = 0 ∧ sp.eDep = 0 ∧ sp.eDrift = 0 ∧
    sp.vIn = none ∧ sp.vOut = none ∧
    ∀ x : Int, x = (sp.q : Int) - sp.d - (match sp.line with | none => 0 | some l => (l.vSpan : Int)) →
      sp.o = max (-2 ^ 47) (min x (2 ^ 47 - 1)) ∧ (sp.mark = true ↔ x < -2 ^ 47 ∨ 2 ^ 47 - 1 < x)

/-- The verdict of a span whose window is not full: LEAK if latched, else BLIND (R121). -/
def Span.latchedOrBlind (sp : Span) : Prop := sp.verdict = if sp.latch then .leak else .blind

/-- Both end ports of a span hold a notice raised to them as ROUTINE: a SPAN notice (R174). -/
def State.endsTold (s t : State) (j : SpanId) (l : SpanLine) (body : NoticeBody) : Prop :=
  s.told t l.upstream body ∧ s.told t j.downStation body

/-- Both end ports of a span hold its VERDICT notice to the verdict it has, if that is another than a verdict before: raised
URGENT for LEAK and ROUTINE else, and from the verdict before where no notice of its key was held (R126, R176). -/
def State.verdictTold (s t : State) (j : SpanId) (l : SpanLine) (before : Verdict) : Prop :=
  (t.span j).verdict ≠ before → ∀ p, p = l.upstream ∨ p = j.downStation →
    ∃ b, (s.port p).tells (t.port p) (.verdict j b (t.span j).verdict) (decide ((t.span j).verdict = .leak)) ∧
      (NoticeKey.verdict j ∉ (s.port p).keys → b = before)

/-! The notices of one event, in their order. -/

/-- What a port that held none of their keys holds after notices raised to it in order, each body with whether it is URGENT:
they stand behind those held, each in the part of its urgency, with the line time of the event (R174, R175). -/
def Port.gains (before after : Port) (now : LineTime) (xs : List (NoticeBody × Bool)) : Prop :=
  (∀ x ∈ xs, x.1.key ∉ before.keys) →
    after.urgent = before.urgent ++ (xs.filter (fun x => x.2)).map (fun x => ⟨x.1, now⟩) ∧
    after.routine = before.routine ++ (xs.filter (fun x => !x.2)).map (fun x => ⟨x.1, now⟩)

/-- An event raises these notices to a port, in this order, and no other. -/
def State.gained (s t : State) (p : PortId) (xs : List (NoticeBody × Bool)) : Prop :=
  (s.port p).gains (t.port p) s.lineTime xs

/-- A notice of another kind than WATCH. -/
def Notice.besideWatch (x : Notice) : Bool :=
  match x.body with
  | .watch _ _ => false
  | _ => true

/-- A port with its WATCH notices set aside. -/
def Port.besideWatch (p : Port) : Port :=
  { p with urgent := p.urgent.filter Notice.besideWatch, routine := p.routine.filter Notice.besideWatch }

/-- An event raises these notices to a port, in this order, and no other but WATCH notices. -/
def State.gainedBesideWatch (s t : State) (p : PortId) (xs : List (NoticeBody × Bool)) : Prop :=
  (s.port p).besideWatch.gains (t.port p).besideWatch s.lineTime xs

/-- The STATION notice that a station's new service state brings to a port (R7). -/
def State.stationNotices (s t : State) (st : StationId) (q : PortId) : List (NoticeBody × Bool) :=
  if q ≠ st ∧ s.isConfigured q = true then [(.station st (t.station st).service, false)] else []

/-- The SPAN notice of an event of span j that a port holds as an end of it (R174). -/
def spanNotices (j : SpanId) (l : SpanLine) (event : SpanEvent) (state : SpanState) (q : PortId) :
    List (NoticeBody × Bool) :=
  if q = l.upstream ∨ q = j.downStation then [(.span j event state, false)] else []

/-- The VERDICT notice that a change from a verdict before brings to a port as an end of span j: URGENT to LEAK (R126). -/
def State.verdictNotices (t : State) (j : SpanId) (l : SpanLine) (before : Verdict) (q : PortId) :
    List (NoticeBody × Bool) :=
  if (q = l.upstream ∨ q = j.downStation) ∧ (t.span j).verdict ≠ before then
    [(.verdict j before (t.span j).verdict, decide ((t.span j).verdict = .leak))]
  else []

/-- The SETTINGS notice APPLIED that a port holds as an end of segment k (R137). -/
def appliedNotices (k : SegId) (q : PortId) : List (NoticeBody × Bool) :=
  if q = k.upStation ∨ q = k.downStation then [(.settings k .applied, false)] else []

/-- At an end of span j that held neither its VERDICT notice nor a RESOLVE notice, the keys that a balance update adds to the
ROUTINE part are that of a ROUTINE VERDICT notice, if the verdict changed, and behind it those of WATCH notices alone
(R94). -/
def State.verdictBeforeWatch (s t : State) (j : SpanId) (l : SpanLine) : Prop :=
  ∀ q, q = l.upstream ∨ q = j.downStation → NoticeKey.verdict j ∉ (s.port q).keys →
    NoticeKey.resolve q ∉ (s.port q).keys →
    ∃ ws : List NoticeKey, (∀ k ∈ ws, ∃ i, k = .watch i) ∧
      (t.port q).routine.map Notice.key = (s.port q).routine.map Notice.key ++
        (if (t.span j).verdict ≠ (s.span j).verdict ∧ (t.span j).verdict ≠ .leak then [.verdict j] else []) ++ ws

/-- How many ports the arbiter's search passes before a port (R44). -/
def turnOf (last : Option PortId) (p : PortId) : Nat :=
  match last with
  | none => p.val
  | some q => (p - q - 1).val

/-- A station's head is READY with this result and mass (R24). -/
def Station.headReady (x : Station) (r : Reading) (c : Conversion) (m : Nat) : Prop :=
  x.queue.head? = some r ∧ r.stage = .ready c m

/-- A port is the one the arbiter grants, with the READY head it grants: no port searched before it has one (R44). -/
def State.grantsTo (s : State) (p : PortId) (r : Reading) (c : Conversion) (m : Nat) : Prop :=
  (s.station p).headReady r c m ∧
    ∀ q, turnOf s.lastGranted q < turnOf s.lastGranted p → ∀ r' c' m', ¬ (s.station q).headReady r' c' m'

/-- What the removal of a granted head leaves at its station: one reading less, the one behind it converted as the new head
and the others as they stand (R31, R45). -/
def Station.headRemoved (x y : Station) : Prop :=
  y.queue.length = x.queue.length - 1 ∧ y.queue.tail = x.queue.tail.tail ∧
    (∀ r ∈ x.queue.tail.head?, y.queue.head? =
      some { r with stage := convert (x.banks.get r.bank) x.lastGood r }) ∧
    (x.queue.tail = [] → y.lastGood = x.lastGood) ∧
    (∀ r ∈ x.queue.tail.head?, y.lastGood = lastGoodAfter (x.banks.get r.bank) x.lastGood r) ∧
    y.tag = x.tag ∧ y.service = x.service ∧ y.silence = x.silence ∧ y.banks = x.banks ∧ y.active = x.active

/-! What a span draws from its segments. -/

/-- A present span's record is drawn from the segments it covers: its first segment starts at its upstream end, its last is
its own, its fill volume and its leak, drift and deposit thresholds are sums, its deposition velocity the largest, and its
margin and levels those of the last segment (R12, R129). -/
def State.drawnFromSegments (s : State) (j : SpanId) (l : SpanLine) : Prop :=
  l.first.num = l.upstream.val + 1 ∧ l.last = j ∧
    ∀ ks : List SegId,
      ks = ([.one, .two, .three] : List SegId).filter (fun k => decide (l.upstream.val < k.num ∧ k.num ≤ j.num)) →
      l.vSpan = (ks.map (fun k => (s.segment k).vSeg)).sum ∧
      l.thr.tLeak = (ks.map (fun k => (s.segment k).settings.tLeak)).sum ∧
      l.thr.tDrift = (ks.map (fun k => (s.segment k).settings.tDrift)).sum ∧
      l.thr.tDep = (ks.map (fun k => (s.segment k).settings.tDep)).sum ∧
      (∀ k ∈ ks, (s.segment k).settings.vC ≤ l.thr.vC) ∧ (∃ k ∈ ks, (s.segment k).settings.vC = l.thr.vC) ∧
      l.thr.m = (s.segment j).settings.m ∧ l.thr.nS = (s.segment j).settings.nS ∧ l.thr.nC = (s.segment j).settings.nC

/-! Byte layouts, in the order of the tables of R186 to R189: each field is its number of bytes and its value. -/

/-- A field of a layout: its number of bytes and its value. -/
abbrev Field := Nat × Int

/-- A run of bytes is these fields one after another, each little-endian, a negative value in two's complement (R186). -/
def laidOut : List Field → List Byte → Prop
  | [], bytes => bytes = []
  | (n, v) :: rest, bytes =>
    (∀ i, i < n → bytes[i]? = some (BitVec.ofInt 8 (v / 256 ^ i))) ∧ laidOut rest (bytes.drop n)

/-- The code of a name: its place in the names of its enumeration, from 0 (R186). -/
def codeIn {α : Type} [DecidableEq α] (names : List α) (x : α) : Int := names.idxOf x

/-- The fields of the settings record that a request carries (R186). -/
def settingsWireFields (r : SettingsWire) : List Field :=
  [(2, r.length.toNat), (2, r.dPipe.toNat), (2, r.vC.toNat), (4, r.tLeak.toNat), (4, r.tDrift.toNat), (4, r.tDep.toNat),
    (2, r.m.toNat), (1, r.nS.toNat), (1, r.nC.toNat)]

/-- The payload fields of a request, by the table of R187. -/
def requestFields : Request → List Field
  | .status | .stationIn | .stationOut | .watchClaim | .watchFreeze | .watchThaw | .noticeGet => []
  | .reading vRaw t rhoM flush fault =>
    [(2, vRaw.toNat), (2, t.toNat), (2, rhoM.toNat), (1, flush.toNat + 2 * fault.toNat)]
  | .resolveAnswer tag mAns => [(1, tag.toNat), (4, mAns.toNat)]
  | .bankWrite bank r => [(1, bank.toNat), (2, r.rhoW.toNat), (2, r.rhoS.toNat), (2, r.cMax.toNat), (1, r.deltaW.toNat),
      (2, r.kQ.toNat), (1, r.mode.toNat)]
  | .bankSelect bank => [(1, bank.toNat)]
  | .bankRead station bank => [(1, station.toNat), (1, bank.toNat)]
  | .spanOpen span cFill => [(1, span.toNat), (2, cFill.toNat)]
  | .spanClose x | .spanRead x | .verdictClear x | .settingsWithdraw x | .settingsRead x | .watchRead x |
    .watchRelease x => [(1, x.toNat)]
  | .parcelList span start count => [(1, span.toNat), (2, start.toNat), (1, count.toNat)]
  | .settingsPropose segment r | .settingsAgree segment r => (1, (segment.toNat : Int)) :: settingsWireFields r
  | .watchSet index r => [(1, index.toNat), (1, r.source.toNat), (1, r.filter.toNat), (1, r.masks.toNat),
      (1, r.mode.toNat), (4, r.threshold.toNat), (1, r.options.toNat), (6, r.preload.toNat)]

/-- The fields of a settings record in a reply (R186). -/
def settingsFields (x : Settings) : List Field :=
  [(2, x.length), (2, x.dPipe), (2, x.vC), (4, x.tLeak), (4, x.tDrift), (4, x.tDep), (2, x.m), (1, x.nS), (1, x.nC)]

/-- The flag byte of a parcel, bit 0 PRIME to bit 6 TRANSIENT (R186). -/
def flagByte (f : Flags) : Int :=
  f.prime.toNat + 2 * f.water.toNat + 4 * f.flush.toNat + 8 * f.estimated.toNat + 16 * f.referred.toNat +
    32 * f.coalesced.toNat + 64 * f.transient.toNat

/-- The fields of one parcel's description (R188). -/
def parcelFields (p : Parcel) : List Field :=
  [(2, p.index), (1, p.origin.val + 16 * p.bank.val), (1, flagByte p.flags), (4, p.entry.toNat), (5, p.volume),
    (5, p.solids)]

/-- The code of a service state (R186). -/
def serviceCode (x : ServiceState) : Int := codeIn [.out, .inService, .stale, .unused] x

/-- The code of a span state (R186). -/
def spanStateCode (x : SpanState) : Int := codeIn [.closed, .opened, .suspended] x

/-- The code of a verdict (R186). -/
def verdictCode (x : Verdict) : Int :=
  codeIn [.blind, .normal, .leakSuspect, .leak, .depositSuspect, .deposit, .drift] x

/-- The fields of one station in a STATUS reply (R188). -/
def statusFields (x : StationStatus) : List Field :=
  [(1, serviceCode x.service), (1, x.depth), (1, codeIn [HeadState.empty, .ready, .awaiting] x.head)]

/-- The span report, down the left column of its table and then down the right (R188). -/
def spanReportFields (r : SpanReport) : List Field :=
  ([(1, r.id.num), (1, spanStateCode r.state), (1, r.line.upstream.val), (1, r.line.first.num), (1, r.line.last.num),
    (4, r.line.vSpan), (2, r.n), (6, r.q), (6, r.s), (6, r.d), (6, r.o), (6, r.x)] : List Field) ++
  ([(6, r.inflow), (6, r.outflow), (6, r.i), (4, r.updates), (4, r.epochStart.toNat), (1, r.fill), (8, r.wI), (4, r.wV),
    (8, r.wE), (2, r.vIn.getD 0), (2, r.vOut.getD 0)] : List Field) ++
  ([(1, r.vIn.isSome.toNat + 2 * r.vOut.isSome.toNat + 4 * r.hold.isSome.toNat + 8 * r.latch.toNat + 16 * r.mark.toNat),
    (1, r.eLeak), (1, r.eDep), (1, r.eDrift), (1, verdictCode r.verdict), (4, (r.hold.getD 0).toNat)] : List Field) ++
  ([(4, r.line.thr.tLeak), (4, r.line.thr.tDrift), (4, r.line.thr.tDep), (2, r.line.thr.vC), (2, r.line.thr.m),
    (1, r.line.thr.nS), (1, r.line.thr.nC)] : List Field)

/-- A watch counter after its index (R188). -/
def watchFields (w : Watch) : List Field :=
  [(1, w.owner.isSome.toNat), (1, match w.owner with | none => 0xFF | some p => p.val),
    (1, codeIn [WatchSource.updateDeficit, .updateExcess, .occupancy, .updates, .shortfall, .exitAge, .exitSolids,
      .inflowVelocity, .reclaims, .resolves] w.source),
    (1, match w.filter with | none => 0 | some j => j.num), (1, w.origins.toNat + 16 * w.banks.toNat),
    (1, codeIn [WatchMode.add, .atLeast, .below, .onsets] w.mode), (4, w.threshold),
    (1, w.notify.toNat + 2 * w.freeze.toNat), (6, w.value),
    (1, w.overflow.toNat + 2 * w.frozen.toNat + 4 * w.lastCompare.toNat)]

/-- A notice's kind and key (R174, R186, R189). -/
def noticeHeadFields : NoticeBody → List Field
  | .resolve st _ _ _ _ _ => [(1, 1), (1, st.val)]
  | .verdict j _ _ => [(1, 2), (1, j.num)]
  | .span j _ _ => [(1, 3), (1, j.num)]
  | .settings k _ => [(1, 4), (1, k.num)]
  | .watch i _ => [(1, 5), (1, i.val)]
  | .station st _ => [(1, 6), (1, st.val)]

/-- A notice's payload by its kind (R189). -/
def noticeFields : NoticeBody → List Field
  | .resolve _ tag cls rhoM v bank =>
    [(1, tag.toNat), (1, codeIn [.idle, .flush, .fault, .low, .water, .slurry, .high] cls), (2, rhoM), (4, v), (1, bank.val)]
  | .verdict j before after => [(1, j.num), (1, verdictCode before), (1, verdictCode after)]
  | .span j event state =>
    [(1, j.num), (1, codeIn [.opened, .closed, .suspended, .resumed, .merged, .split, .newEpoch] event),
      (1, spanStateCode state)]
  | .settings k event => [(1, k.num), (1, codeIn [.proposed, .applied, .expired, .withdrawn] event)]
  | .watch i value => [(1, i.val), (6, value)]
  | .station st service => [(1, st.val), (1, serviceCode service)]

/-- What SETTINGS_READ says of the pending proposal, all 0 where there is none (R188). -/
def proposalFields : Option Proposal → List Field
  | none => ([(1, 0), (1, 0)] : List Field) ++ settingsFields ⟨0, 0, 0, 0, 0, 0, 0, 0, 0⟩ ++ [(4, 0)]
  | some q => ([(1, 1), (1, q.proposer.val)] : List Field) ++ settingsFields q.settings ++
    ([(4, q.expiry.toNat)] : List Field)

/-- What a reply carries after its result code, by the tables of R188 and R189. -/
def replyFields : ReplyBody → List Field
  | .none => []
  | .status config now n sts free present =>
    ([(2, 0x2C41), (1, 0x01), (1, if config = .configured then 0 else 1), (4, now.toNat), (1, n)] : List Field) ++
      statusFields sts.p0 ++ statusFields sts.p1 ++ statusFields sts.p2 ++ statusFields sts.p3 ++
      ([(2, free), (1, 2 * present.s1.toNat + 4 * present.s2.toNat + 8 * present.s3.toNat)] : List Field)
  | .tag x => [(1, x.toNat)]
  | .bank st b active x => [(1, st.val), (1, b.val), (1, active.val), (2, x.rhoW), (2, x.rhoS), (2, x.cMax), (1, x.deltaW),
      (2, x.kQ), (1, codeIn [BankMode.refer, .limit] x.mode)]
  | .span r => spanReportFields r
  | .parcels j n start now ps =>
    ([(1, j.num), (2, n), (2, start), (1, ps.length), (4, now.toNat)] : List Field) ++ ps.flatMap parcelFields
  | .outcome x => [(1, codeIn [.recorded, .replaced, .applied] x)]
  | .segment k x area vSeg j q =>
    ([(1, k.num)] : List Field) ++ settingsFields x ++
      ([(4, area), (4, vSeg), (1, match j with | none => 0 | some j => j.num)] : List Field) ++ proposalFields q
  | .index i => [(1, i.val)]
  | .watch i w => (1, (i.val : Int)) :: watchFields w
  | .owned count => [(1, count)]
  | .notice x urgent left =>
    noticeHeadFields x.body ++ ([(1, urgent.toNat), (4, x.raisedAt.toNat), (1, left)] : List Field) ++ noticeFields x.body

/-! Frames: what a command leaves as it stands. -/

/-- The configuration state, N, the timer lengths, SCS, line time and the queue of commands stand. -/
def State.sameSetUp (s t : State) : Prop :=
  t.config = s.config ∧ t.n = s.n ∧ t.lineTime = s.lineTime ∧ t.tStale = s.tStale ∧ t.tRes = s.tRes ∧
    t.tAgree = s.tAgree ∧ t.tTrip = s.tTrip ∧ t.scs = s.scs ∧ t.sdo = s.sdo ∧
    t.pending = s.pending

/-- The parcel store stands: the free list and every queue. -/
def State.sameStore (s t : State) : Prop := t.free = s.free ∧ ∀ j, t.queue j = s.queue j

/-- Every station but one stands, and the arbiter's record. -/
def State.sameStationsBut (s t : State) (st : StationId) : Prop :=
  t.lastGranted = s.lastGranted ∧ ∀ x, x ≠ st → t.station x = s.station x

/-- Every station stands, and the arbiter's record. -/
def State.sameStations (s t : State) : Prop := t.lastGranted = s.lastGranted ∧ ∀ x, t.station x = s.station x

/-- Every segment stands. -/
def State.sameSegments (s t : State) : Prop := ∀ k, t.segment k = s.segment k

/-- Every span record stands. -/
def State.sameSpans (s t : State) : Prop := ∀ j, t.span j = s.span j

/-- Every watch counter stands. -/
def State.sameWatches (s t : State) : Prop := ∀ i, t.watch i = s.watch i

/-- The links of every port but one stand: rate, receiver, replies and trip level. -/
def State.sameLinksBut (s t : State) (p : PortId) : Prop := ∀ q, q ≠ p → (t.port q).linkOf = (s.port q).linkOf

/-- The links of every port stand. -/
def State.sameLinks (s t : State) : Prop := ∀ q, (t.port q).linkOf = (s.port q).linkOf

/-- What an answered command does to its own port's link: the receiver in HUNT, one reply more, rate and trip level as they
stand (R166, R168). -/
def State.repliedAt (s t : State) (p : PortId) (r : Reply) : Prop :=
  (t.port p).linkOf = ((s.port p).rate, .hunt, (s.port p).replies ++ [r], (s.port p).trip)

/-! What the engine does with a granted reading. -/

/-- Every counter is as a run of samples, offered in order, leaves it (R152, R154). -/
def State.offered (s t : State) (xs : List Sample) : Prop := ∀ i, t.watch i = (xs.foldl State.offer s).watch i

/-- The sample of the reclaim that an allocation makes: when the free list is empty and the fullest queue has two parcels to
join (R57, R60). -/
def State.reclaimOffers (s : State) : List Sample :=
  if s.free = [] ∧ 2 ≤ (s.queue s.fullest).length then [⟨.reclaims, 1, some s.fullest, none, none⟩] else []

/-- The reading that becomes head when a station's head leaves converts AWAITING, to this result (R31, R45). -/
def Station.nextAwaits (x : Station) (r : Reading) (c : Conversion) : Prop :=
  x.queue.tail.head? = some r ∧ convert (x.banks.get r.bank) x.lastGood r = .awaiting c

/-- The sample of the resolve that a station's next head raises, if it converts AWAITING (R39). -/
def Station.resolveOffers (x : Station) (p : PortId) : List Sample :=
  match x.queue.tail with
  | [] => []
  | r :: _ =>
    match convert (x.banks.get r.bank) x.lastGood r with
    | .awaiting _ => [⟨.resolves, 1, none, some p, none⟩]
    | _ => []

/-- A balance update of an OPEN span by a reading of result c and mass M, and the samples it offers (R47, R49, R80, R89 to
R92, R94, R96, R98, R118). -/
def State.updatedBy (s u : State) (j : SpanId) (l : SpanLine) (c : Conversion) (m : Nat) (offers : List Sample) : Prop :=
  ∃ d : DrainReport, d = drainQueue c.v (s.queue j) ∧
    u.queue j = d.queue ∧ u.free = s.free ++ d.freed ∧ (∀ i, i ≠ j → u.queue i = s.queue i ∧ u.span i = s.span i) ∧
    (u.span j).q = (s.span j).q - d.drained ∧ (u.span j).s = (s.span j).s - d.e ∧
    (u.span j).d = min ((s.span j).d + d.shortfall) (2 ^ 48 - 1) ∧
    (u.span j).i = max (-2 ^ 47) (min ((s.span j).i + ((d.e : Int) - m)) (2 ^ 47 - 1)) ∧
    (u.span j).outflow = min ((s.span j).outflow + c.v) (2 ^ 48 - 1) ∧
    (u.span j).updates = min ((s.span j).updates + 1) (2 ^ 32 - 1) ∧
    ((u.span j).mark = true ↔ (s.span j).mark = true ∨ (s.span j).q < d.drained ∨ (s.span j).s < d.e ∨
      (2 ^ 48 - 1) < (s.span j).d + d.shortfall ∨ (s.span j).i + ((d.e : Int) - m) < (-2 ^ 47) ∨
      (2 ^ 47 - 1) < (s.span j).i + ((d.e : Int) - m) ∨ (2 ^ 48 - 1) < (s.span j).outflow + c.v) ∧
    (u.span j).window =
      (if (s.span j).window.length < 16 then (s.span j).window else (s.span j).window.tail) ++
        [⟨(d.e : Int) - m, c.v, d.e⟩] ∧
    (u.span j).vOut =
      some (min ((c.v * 10 ^ 9 + (s.segment j).area * c.tC / 2) / ((s.segment j).area * c.tC)) 65535) ∧
    (u.span j).o = (s.span j).o ∧ (u.span j).inflow = (s.span j).inflow ∧ (u.span j).vIn = (s.span j).vIn ∧
    (u.span j).epochStart = (s.span j).epochStart ∧
    (if (s.span j).hold = none ∧ c.flags.estimated = false ∧ d.taint = false ∧ (u.span j).window.length = 16 then
      (u.span j).eLeak = moveEvidence (s.span j).eLeak ((u.span j).leakHolds l.thr) ∧
      (u.span j).eDep = moveEvidence (s.span j).eDep ((u.span j).depositHolds l.thr) ∧
      (u.span j).eDrift = moveEvidence (s.span j).eDrift ((u.span j).driftHolds l.thr)
    else (u.span j).eLeak = (s.span j).eLeak ∧ (u.span j).eDep = (s.span j).eDep ∧
      (u.span j).eDrift = (s.span j).eDrift) ∧
    u.span j = Span.derive { u.span j with verdict := (s.span j).verdict, latch := (s.span j).latch } ∧
    offers = (d.portions.flatMap fun x =>
        [⟨.exitAge, (s.lineTime - x.entry).toNat, some j, some x.origin, some x.bank⟩,
          ⟨.exitSolids, x.solids, some j, some x.origin, some x.bank⟩]) ++
      [⟨.updateDeficit, (d.e : Int) - m, some j, none, none⟩,
        ⟨.updateExcess, max (-2 ^ 47) (min (((u.span j).q : Int) - (u.span j).d - l.vSpan) (2 ^ 47 - 1)), some j, none, none⟩,
        ⟨.occupancy, d.queue.length, some j, none, none⟩,
        ⟨.updates, 1, some j, none, none⟩,
        ⟨.shortfall, d.shortfall, some j, none, none⟩]

/-- An inflow to an OPEN span of a reading of station p, whose next segment is g, and the samples it offers; an IDLE one sets
v_in alone and offers none (R48, R49, R80, R87, R88). -/
def State.filledBy (s t : State) (j : SpanId) (g : SegId) (p : StationId) (bank : BankId) (c : Conversion) (m : Nat)
    (offers : List Sample) : Prop :=
  (∀ i, i ≠ j → t.span i = s.span i) ∧
    (c.v = 0 → t.span j = { s.span j with vIn := some 0 } ∧ s.sameStore t ∧ offers = []) ∧
    (0 < c.v → ∃ vel, vel = min ((c.v * 10 ^ 9 + (s.segment g).area * c.tC / 2) / ((s.segment g).area * c.tC)) 65535 ∧
      t.queue j = s.allocate.2.queue j ++ [⟨s.allocate.1, p, s.lineTime, c.v, m, bank,
        { c.flags with transient := (s.span j).hold.isSome }⟩] ∧
      (∀ i, i ≠ j → t.queue i = s.allocate.2.queue i) ∧ t.free = s.allocate.2.free ∧
      t.span j = { s.span j with
        q := min ((s.span j).q + c.v) (2 ^ 48 - 1)
        s := min ((s.span j).s + m) (2 ^ 48 - 1)
        inflow := min ((s.span j).inflow + c.v) (2 ^ 48 - 1)
        mark := (s.span j).mark || decide ((2 ^ 48 - 1) < (s.span j).q + c.v) || decide ((2 ^ 48 - 1) < (s.span j).s + m) ||
          decide ((2 ^ 48 - 1) < (s.span j).inflow + c.v)
        vIn := some vel } ∧
      offers = s.reclaimOffers ++ [⟨.inflowVelocity, vel, some j, none, none⟩])

/-! Invariants. -/

/-- Every span record holds what R10 and R12 derive from N, the service states and the settings: it is present exactly while
its id is a span end. -/
def State.topologyHolds (s : State) : Prop := s.n ≤ 4 ∧ ∀ j, (s.span j).line = s.lineOf j

/-- N is 0 until an image is accepted (R180, R185). -/
def State.emptyUntilConfigured (s : State) : Prop := s.config ≠ .configured → s.n = 0

/-- An absent record is CLOSED (R11). -/
def State.absentIsClosed (s : State) : Prop := ∀ j, (s.span j).line = none → (s.span j).state = .closed

/-- A CLOSED span holds no parcel (R11, R53). -/
def State.closedIsEmpty (s : State) : Prop := ∀ j, (s.span j).state = .closed → s.queue j = []

/-- Each of the 2048 records is on the free list or in exactly one queue, and none is there twice (R53). -/
def State.poolWhole (s : State) : Prop :=
  (s.free ++ indicesOf (s.queue .one) ++ indicesOf (s.queue .two) ++ indicesOf (s.queue .three)).Perm
    (List.range 2048)

/-- Every segment of the line holds valid settings and the area and fill volume derived from them, and every pending
proposal holds valid settings (R9, R128, R130). -/
def State.geometryHolds (s : State) : Prop :=
  (∀ k, s.isSegment k = true → (s.segment k).settings.valid = true ∧
      (s.segment k).area = areaOf (s.segment k).settings.dPipe ∧
      (s.segment k).vSeg = vSegOf (areaOf (s.segment k).settings.dPipe) (s.segment k).settings.length) ∧
    ∀ k q, (s.segment k).proposal = some q → q.settings.valid = true

/-- Every parcel in a queue has a volume of at least 1 litre (R53). -/
def State.parcelsHold (s : State) : Prop := ∀ j, ∀ p ∈ s.queue j, 1 ≤ p.volume

/-- The parcel store's invariant, with what it rests on (R53). -/
def State.storeHolds (s : State) : Prop :=
  s.topologyHolds ∧ s.emptyUntilConfigured ∧ s.geometryHolds ∧ s.absentIsClosed ∧ s.closedIsEmpty ∧ s.poolWhole ∧
    s.parcelsHold

/-- Q - D - V_span = O + in - out on every OPEN or SUSPENDED span whose saturation mark is clear (R83). -/
def State.identityHolds (s : State) : Prop :=
  ∀ j l, (s.span j).state ≠ .closed → (s.span j).mark = false → (s.span j).line = some l →
    ((s.span j).q : Int) - (s.span j).d - l.vSpan = (s.span j).o + (s.span j).inflow - (s.span j).outflow

/-- The balance identity, with what it rests on (R83). -/
def State.balanceHolds (s : State) : Prop :=
  s.topologyHolds ∧ s.emptyUntilConfigured ∧ s.absentIsClosed ∧ s.geometryHolds ∧ s.identityHolds

/-- A span's verdict is LEAK exactly when its leak latch is set (R123). -/
def State.latchHolds (s : State) : Prop := ∀ j, (s.span j).verdict = .leak ↔ (s.span j).latch = true

/-- The window of every span holds at most 16 entries, and its sums are those of its entries (R96). -/
def State.windowsHold (s : State) : Prop :=
  ∀ j, (s.span j).window.length ≤ 16 ∧
    (s.span j).wI = ((s.span j).window.map (fun w => w.dI)).sum ∧
    (s.span j).wV = ((s.span j).window.map (fun w => w.vOut)).sum ∧
    (s.span j).wE = ((s.span j).window.map (fun w => w.e)).sum

/-- The evidence counters and velocities of a span are in their ranges, and Q, S, D, in, out, O, I and the update count in
their widths (R76, R79, R113). -/
def Span.inRange (sp : Span) : Prop :=
  sp.eLeak ≤ 255 ∧ sp.eDep ≤ 255 ∧ sp.eDrift ≤ 255 ∧
    (∀ v, sp.vIn = some v → v ≤ 65535) ∧ (∀ v, sp.vOut = some v → v ≤ 65535) ∧
    sp.q ≤ 2 ^ 48 - 1 ∧ sp.s ≤ 2 ^ 48 - 1 ∧ sp.d ≤ 2 ^ 48 - 1 ∧ sp.inflow ≤ 2 ^ 48 - 1 ∧ sp.outflow ≤ 2 ^ 48 - 1 ∧
    sp.updates ≤ 2 ^ 32 - 1 ∧
    ((-2 ^ 47) ≤ sp.o ∧ sp.o ≤ (2 ^ 47 - 1)) ∧ ((-2 ^ 47) ≤ sp.i ∧ sp.i ≤ (2 ^ 47 - 1))

/-- Every span record is in range. -/
def State.rangesHold (s : State) : Prop := ∀ j, (s.span j).inRange

/-- A key that a port can hold: a RESOLVE of its own station, a STATION notice of another (R174). -/
def keyFits (p : PortId) : NoticeKey → Prop
  | .resolve st => st = p
  | .station st => st ≠ p
  | _ => True

/-- No port holds two notices with the same key, every key is one the port can hold, and the attention line is low exactly
while the queue holds a notice (R174, R179). -/
def State.noticesHold (s : State) : Prop :=
  ∀ p, (s.port p).keys.Nodup ∧ (∀ k ∈ (s.port p).keys, keyFits p k) ∧
    ((s.port p).attn = .low ↔ (s.port p).keys ≠ [])

/-- No reply buffer holds more than 4 replies (R168). -/
def State.buffersHold (s : State) : Prop := ∀ p, (s.port p).replies.length ≤ 4

/-- SCS is low and the read command is sent exactly while LOADING; no other command is sent on SDO (R180, R181, R184). -/
def State.serialHolds (s : State) : Prop :=
  (s.config = .loading → s.scs = .low ∧ s.sdo = imageReadCommand) ∧ (s.config ≠ .loading → s.scs = .high ∧ s.sdo = [])

/-- A reading queue holds at most 8 readings; its head is READY or AWAITING and every other reading is QUEUED; the resolve
timer runs exactly while the head is AWAITING (R23, R24, R39). -/
def Station.queueHolds (x : Station) : Prop :=
  x.queue.length ≤ 8 ∧ (∀ r ∈ x.queue.head?, r.stage ≠ .queued) ∧
    (∀ r ∈ x.queue.tail, r.stage = .queued) ∧ (x.resolve.isSome = true ↔ x.headState = .awaiting)

/-- Every reading queue keeps its form. -/
def State.readingsHold (s : State) : Prop := ∀ st, (s.station st).queueHolds

/-- A bank lies in the ranges of R27. -/
def Bank.valid (b : Bank) : Prop :=
  within 990 1100 b.rhoW = true ∧ within 2000 4000 b.rhoS = true ∧ b.rhoW + 500 ≤ b.rhoS ∧
    within 50 600 b.cMax = true ∧ b.deltaW ≤ 50 ∧ within 9000 11000 b.kQ = true

/-- Every bank of every configured station holds valid contents (R27). -/
def State.banksHold (s : State) : Prop :=
  s.emptyUntilConfigured ∧ ∀ st b, s.isConfigured st = true → ((s.station st).banks.get b).valid

/-- Nothing reaches an unused port: its notice queue is empty, its station has no reading, it owns no counter, and it has
proposed nothing (R169). -/
def State.unusedHolds (s : State) : Prop :=
  s.topologyHolds ∧ s.emptyUntilConfigured ∧
    (∀ p, s.isConfigured p = false → (s.port p).keys = [] ∧ (s.station p).queue = []) ∧
    (∀ i p, (s.watch i).owner = some p → s.isConfigured p = true) ∧
    ∀ k q, (s.segment k).proposal = some q → s.isConfigured q.proposer = true

end Sys2Proof.Machine
end

