-- ==== Sys2Proof/Certificates/Slice0/Obligations.lean ====
section
/-! DEFINITION. The statements for the provers, in the order of the spec's chapters. Each docstring names the rules it
follows and, where a clause rests on a choice of the model, the log entry. -/

open Sys2Proof Sys2Proof.Machine

/-! The step and the queue of commands. -/

/-- With a command at the front of the queue, step executes it with the queue's rest; an empty queue idles. The queue is
the model's own (log entry 1). -/
def Obligations.StepRunsFrontCommand : Prop :=
  (∀ (c : Instr) (rest : List Instr) (s : State), s.pending = c :: rest → step s = exec c { s with pending := rest }) ∧
    ∀ s : State, s.pending = [] → step s = .next s

/-! Start-up and line time (R1, R180 to R185). -/

/-- R180, R181, R3, R11, R23, R38, R44, R54, R77, R130, R144, R163: what RESET leaves, with an absent span record and a FREE
counter written out. That `pending` stays is the model's
(log entry 1). -/
def Obligations.ResetGivesResetValues : Prop :=
  (Span.blank.line = none ∧ Span.blank.state = .closed ∧ Span.blank.epochStarted 0 ∧ Span.blank.q = 0 ∧ Span.blank.s = 0 ∧
    Span.blank.d = 0 ∧ Span.blank.o = 0 ∧ Span.blank.mark = false ∧ Span.blank.verdict = .blind ∧
    Span.blank.latch = false ∧ Span.blank.hold = none) ∧
  Watch.free = ⟨none, .updates, none, 0xF#4, 0xF#4, .add, 0, 0, false, false, false, false, false⟩ ∧
  ∀ s : State, ∃ t, exec .reset s = .next t ∧ t.pending = s.pending ∧ t.config = .loading ∧ t.n = 0 ∧ t.lineTime = 0 ∧
    t.scs = .low ∧ t.sdo = [0x03, 0x00, 0x00, 0x00] ∧ t.lastGranted = none ∧ t.free = List.range 2048 ∧
    (∀ st, (t.station st).service = .unused ∧ (t.station st).silence = none ∧ (t.station st).queue = [] ∧
      (t.station st).tag = 0 ∧ (t.station st).lastGood = none ∧ (t.station st).resolve = none) ∧
    (∀ j, t.queue j = [] ∧ t.span j = Span.blank) ∧ (∀ k, (t.segment k).proposal = none) ∧
    (∀ i, t.watch i = Watch.free) ∧
    ∀ p, (t.port p).rate = none ∧ (t.port p).rx = .idle ∧ (t.port p).replies = [] ∧ (t.port p).urgent = [] ∧
      (t.port p).routine = [] ∧ (t.port p).attn = .high

/-- R182, R183, R3, R8, R9, R10, R11, R12, R27, R104, R129, R163: an accepted image configures the part. The fields of the
image that it names are written out by offset in the statement after it. -/
def Obligations.AcceptedImageConfigures : Prop :=
  ∀ (s : State) (image : List Byte), s.config = .loading → image.length = 249 → imageAccepted image = true →
    ∃ t, exec (.imageReadComplete image) s = .next t ∧
      t.config = .configured ∧ t.n = imageN image ∧ t.lineTime = 0 ∧ t.scs = .high ∧ t.sdo = [] ∧
      t.tStale = (if imageTStale image = 0 then 30 else imageTStale image) ∧
      t.tRes = (if imageTRes image = 0 then 10 else imageTRes image) ∧
      t.tAgree = (if imageTAgree image = 0 then 120 else imageTAgree image) ∧
      t.tTrip = (if imageTTrip image = 0 then 20 else imageTTrip image) ∧
      (∀ st, st.val < imageN image → (t.station st).service = .out ∧ (t.station st).silence = none ∧
        (∀ b, imageBank image st b = some ((t.station st).banks.get b)) ∧
        imageActive image st = some (t.station st).active) ∧
      (∀ st, imageN image ≤ st.val → t.station st = s.station st) ∧
      (∀ k, k.num < imageN image → (t.segment k).settings = imageSettings image k ∧
        (t.segment k).area = ((imageSettings image k).dPipe ^ 2 * 7854 + 5000) / 10000 ∧
        (t.segment k).vSeg = ((t.segment k).area * (imageSettings image k).length + 500) / 1000) ∧
      (∀ k, imageN image ≤ k.num → t.segment k = s.segment k) ∧
      (∀ p, imageRate image p = (t.port p).rate ∧ (t.port p).rx = .hunt ∧ (t.port p).trip = .high ∧
        (t.port p).replies = (s.port p).replies ∧ (t.port p).urgent = (s.port p).urgent ∧
        (t.port p).routine = (s.port p).routine) ∧
      (∀ j, t.span j = { s.span j with line := (t.span j).line } ∧
        ((t.span j).line.isSome = true ↔ j.num + 1 = imageN image) ∧
        ∀ l, (t.span j).line = some l → l.upstream = 0 ∧ l.first = .one ∧ l.last = j ∧
          l.vSpan = ((([.one, .two, .three] : List SegId).filter (fun k => decide (k.num < imageN image))).map
            (fun k => (t.segment k).vSeg)).sum ∧ t.drawnFromSegments j l) ∧
      s.sameStore t ∧ s.sameWatches t ∧ t.lastGranted = s.lastGranted ∧ t.pending = s.pending

/-- R27, R170, R181, R182, R185, R186, R190: the fields of an image, byte by byte; one is accepted exactly when the nine checks
of R182 pass, its CRC-32 taken bit by bit; an absent memory, and an image that fails a check, leave the part UNCONFIGURED,
every port hunting at 19 200 bit/s, and every block as it stood. -/
def Obligations.RefusedImageUnconfigures : Prop :=
  (∀ (image : List Byte) (f u16 u32 : Nat → Nat), image.length = 249 → (∀ i, f i = (image.getD i 0).toNat) →
    (∀ i, u16 i = f i + 256 * f (i + 1)) → (∀ i, u32 i = u16 i + 65536 * u16 (i + 2)) →
    imageN image = f 5 ∧ imageTStale image = f 10 ∧ imageTRes image = f 11 ∧ imageTAgree image = f 12 + 256 * f 13 ∧
    imageTTrip image = f 14 ∧
    (∀ (k : SegId) (o : Nat), o = 15 + 22 * (k.num - 1) → imageSettings image k =
      ⟨u16 o, u16 (o + 2), u16 (o + 4), u32 (o + 6), u32 (o + 10), u32 (o + 14), u16 (o + 18), f (o + 20), f (o + 21)⟩) ∧
    (∀ (st : StationId) (b : BankId) (o : Nat), o = 81 + 40 * st.val + 10 * b.val → imageBank image st b =
      if (990 ≤ u16 o ∧ u16 o ≤ 1100) ∧ (2000 ≤ u16 (o + 2) ∧ u16 (o + 2) ≤ 4000) ∧ u16 o + 500 ≤ u16 (o + 2) ∧
          (50 ≤ u16 (o + 4) ∧ u16 (o + 4) ≤ 600) ∧ f (o + 6) ≤ 50 ∧ (9000 ≤ u16 (o + 7) ∧ u16 (o + 7) ≤ 11000) ∧
          f (o + 9) < 2 then
        some ⟨u16 o, u16 (o + 2), u16 (o + 4), f (o + 6), u16 (o + 7), if f (o + 9) = 0 then .refer else .limit⟩
      else none) ∧
    (∀ st : StationId, imageActive image st = if h : f (241 + st.val) < 4 then some ⟨f (241 + st.val), h⟩ else none) ∧
    (∀ p : PortId, imageRate image p =
      [LinkRate.r19200, .r38400, .r57600, .r115200, .r230400, .r460800, .r921600][f (6 + p.val)]?) ∧
    (imageAccepted image = true ↔
      (f 0 = 0x4B ∧ f 1 = 0x56 ∧ f 2 = 0x4A ∧ f 3 = 0x4C) ∧ f 4 = 1 ∧
      (crc32 (image.take 245)).toNat = f 245 + 256 * f 246 + 65536 * f 247 + 16777216 * f 248 ∧
      (2 ≤ f 5 ∧ f 5 ≤ 4) ∧ (∀ p : PortId, f (6 + p.val) < 7) ∧
      ((f 10 = 0 ∨ 5 ≤ f 10) ∧ f 11 ≤ 60 ∧
        (f 12 + 256 * f 13 = 0 ∨ 10 ≤ f 12 + 256 * f 13 ∧ f 12 + 256 * f 13 ≤ 600) ∧ f 14 ≤ 120) ∧
      (∀ k : SegId, k.num < f 5 → (imageSettings image k).valid = true) ∧
      (∀ (st : StationId) (b : BankId), st.val < f 5 → imageBank image st b ≠ none) ∧
      ∀ st : StationId, st.val < f 5 → f (241 + st.val) < 4)) ∧
  (∀ bytes : List Byte, crc32 bytes = ~~~ ((bytes.flatMap (fun b => (List.range 8).map b.getLsbD)).foldl
      (fun (c : BitVec 32) bit => if c.getLsbD 0 = bit then c >>> 1 else (c >>> 1) ^^^ (0x04C11DB7#32).reverse)
      0xFFFFFFFF#32)) ∧
  ∀ (s : State) (image : List Byte), s.config = .loading → image = [] ∨ imageAccepted (imageRead image) = false →
    ∃ t, exec (.imageReadComplete image) s = .next t ∧ t.config = .unconfigured ∧ t.n = s.n ∧
      t.lineTime = s.lineTime ∧ t.scs = .high ∧ t.sdo = [] ∧ s.sameStations t ∧ s.sameSegments t ∧ s.sameSpans t ∧
      s.sameStore t ∧ s.sameWatches t ∧ t.pending = s.pending ∧
      ∀ p, t.port p = { s.port p with rate := some .r19200, rx := .hunt }

/-- R1: line time rises by one at a tick while CONFIGURED, from 4 294 967 295 to 0, and stays otherwise. -/
def Obligations.TickMovesLineTime : Prop :=
  ∀ s : State,
    (s.config = .configured → ∃ t, exec .lineTimeTick s = .next t ∧ t = { s with lineTime := t.lineTime } ∧
      t.lineTime.toNat = if s.lineTime.toNat = 4294967295 then 0 else s.lineTime.toNat + 1) ∧
    (s.config ≠ .configured → exec .lineTimeTick s = .next s)

/-- A timer of at most 600 s is not due before its length has passed, is due when it has and stays due if taken late, across
the wrap of line time; a stopped timer is not due (R2; that a late expiry is not lost is the model's choice, log entry 6).
Events whose condition does not hold change nothing: an image read once configuration is over, an expiry not reached, a
trip edge against the level held or while not CONFIGURED, a break while LOADING or during a break, and a return to mark
without a break (R2, R44, R104, R163, R171, R184). That such a command may be sent at all is the model's (log entry 5). -/
def Obligations.EventsOutOfPlaceChangeNothing : Prop :=
  (∀ (start : LineTime) (length after : Nat), length ≤ 600 →
    (after < length → timerDue (start + BitVec.ofNat 32 after) (some (start + BitVec.ofNat 32 length)) = false) ∧
    (length ≤ after → after < 2 ^ 31 →
      timerDue (start + BitVec.ofNat 32 after) (some (start + BitVec.ofNat 32 length)) = true)) ∧
  (∀ (now e : LineTime), timerDue now none = false ∧ timerDue now (some e) = reached now e) ∧
  ∀ (s : State) (st : StationId) (p : PortId) (k : SegId) (j : SpanId) (image : List Byte),
    (s.config ≠ .loading → exec (.imageReadComplete image) s = .next s) ∧
    (timerDue s.lineTime (s.station st).silence = false ∨ s.inService st = false →
      exec (.silenceExpiry st) s = .next s) ∧
    (timerDue s.lineTime (s.station st).resolve = false → exec (.resolveExpiry st) s = .next s) ∧
    ((∀ q, (s.segment k).proposal = some q → reached s.lineTime q.expiry = false) →
      exec (.agreementExpiry k) s = .next s) ∧
    (timerDue s.lineTime (s.span j).hold = false → exec (.holdExpiry j) s = .next s) ∧
    (s.config ≠ .configured ∨ (s.port p).trip = .low → exec (.tripFallingEdge p) s = .next s) ∧
    (s.config ≠ .configured ∨ (s.port p).trip = .high → exec (.tripRelease p) s = .next s) ∧
    (s.config = .loading ∨ (s.port p).rx = .awaitMark → exec (.portRestart p) s = .next s) ∧
    ((s.port p).rx ≠ .awaitMark → exec (.returnToMark p) s = .next s) ∧
    ((∀ q r c m, ¬ (s.station q).headReady r c m) → exec .grant s = .next s)

/-! Service changes and spans (R3 to R22). -/

/-- R4, R7 steps 1 and 2: STATION_IN takes a station that is not IN_SERVICE into service, starts its silence timer and
tells every other configured port; IN_SERVICE, it changes nothing. What it does to spans is said by the statements on line
ends and splits. -/
def Obligations.StationInTakesIntoService : Prop :=
  ∀ (s : State) (p : PortId), s.takes p →
    (s.inService p = true → exec (.stationIn p) s = .next (s.answered p 0x02 .done .none)) ∧
    (s.inService p = false → ∃ t, exec (.stationIn p) s = .next t ∧
      t.station p = { s.station p with
        service := .inService, silence := some (s.lineTime + BitVec.ofNat 32 s.tStale) } ∧
      s.sameStationsBut t p ∧ s.sameSetUp t ∧ s.sameSegments t ∧ s.sameLinksBut t p ∧
      s.repliedAt t p ⟨0x02, .done, .none⟩ ∧
      ∀ q, q ≠ p → s.isConfigured q = true → s.told t q (.station p .inService))

/-- R5, R6, R7: STATION_OUT takes a station that is not OUT out of service, stops its silence timer and tells every other
configured port, from STALE with no span changed, and OUT it changes nothing; the silence expiry of an IN_SERVICE station
makes it STALE and tells every other configured port. -/
def Obligations.StationLeavesService : Prop :=
  (∀ (s : State) (p : PortId), s.takes p →
      ((s.station p).service = .out → exec (.stationOut p) s = .next (s.answered p 0x03 .done .none)) ∧
      ((s.station p).service ≠ .out → ∃ t, exec (.stationOut p) s = .next t ∧
        t.station p = { s.station p with service := .out, silence := none } ∧
        s.sameStationsBut t p ∧ s.sameSetUp t ∧ s.sameSegments t ∧ s.sameLinksBut t p ∧ s.sameWatches t ∧
        s.repliedAt t p ⟨0x03, .done, .none⟩ ∧
        (∀ q, q ≠ p → s.isConfigured q = true → s.told t q (.station p .out)) ∧
        (s.inService p = false → s.sameSpans t ∧ s.sameStore t))) ∧
  (∀ (s : State) (st : StationId), s.inService st = true → timerDue s.lineTime (s.station st).silence = true →
      ∃ t, exec (.silenceExpiry st) s = .next t ∧
        t.station st = { s.station st with service := .stale, silence := none } ∧
        s.sameStationsBut t st ∧ s.sameSetUp t ∧ s.sameSegments t ∧ s.sameLinks t ∧ s.sameWatches t ∧
        ∀ q, q ≠ st → s.isConfigured q = true → s.told t q (.station st .stale))

/-- R16, R17: when the head or the tail leaves IN_SERVICE, the OPEN span that has it as an end is SUSPENDED, with all else
of it but its verdict kept; every other span, and every one that is not OPEN, stands. Each port is told of the station, then
of the span, then of its verdict (R7, R126). -/
def Obligations.LineEndLeavingSuspends : Prop :=
  ∀ (s : State) (c : Instr) (st : StationId), s.leavesBy c st → s.topologyHolds → 2 ≤ s.n → st.val = 0 ∨ st.val + 1 = s.n →
    ∃ t, exec c s = .next t ∧ s.sameStore t ∧ s.sameWatches t ∧
      (∀ j, (s.span j).line = none → t.span j = s.span j) ∧
      ∀ j l, (s.span j).line = some l →
        if (st = l.upstream ∨ st = j.downStation) ∧ (s.span j).state = .opened then
          t.span j = { s.span j with state := .suspended, verdict := if (s.span j).latch then .leak else .blind } ∧
            s.endsTold t j l (.span j .suspended .suspended) ∧ s.verdictTold t j l (s.span j).verdict ∧
            ∀ q, s.gained t q (s.stationNotices t st q ++ spanNotices j l .suspended .suspended q ++
              t.verdictNotices j l (s.span j).verdict q)
        else t.span j = s.span j

/-- R16, R18, R84: when the head or the tail returns to IN_SERVICE, the SUSPENDED span that has it as an end and whose other
end is IN_SERVICE becomes OPEN and starts an epoch; every other span stands. Each port is told of the station, then of the
span, then of its verdict (R7, R126). -/
def Obligations.LineEndReturningResumes : Prop :=
  ∀ (s : State) (c : Instr) (st : StationId), s.returnsBy c st → s.topologyHolds → 2 ≤ s.n → st.val = 0 ∨ st.val + 1 = s.n →
    ∃ t, exec c s = .next t ∧ s.sameStore t ∧ s.sameWatches t ∧
      (∀ j, (s.span j).line = none → t.span j = s.span j) ∧
      ∀ j l, (s.span j).line = some l →
        if (st = l.upstream ∨ st = j.downStation) ∧ (s.span j).state = .suspended ∧
            ∀ q, q = l.upstream ∨ q = j.downStation → q ≠ st → s.inService q = true then
          (t.span j).state = .opened ∧ (t.span j).epochStarted s.lineTime ∧ (t.span j).latchedOrBlind ∧
            (t.span j).line = some l ∧ (t.span j).q = (s.span j).q ∧ (t.span j).s = (s.span j).s ∧
            (t.span j).d = (s.span j).d ∧ (t.span j).latch = (s.span j).latch ∧ (t.span j).hold = (s.span j).hold ∧
            s.endsTold t j l (.span j .resumed .opened) ∧ s.verdictTold t j l (s.span j).verdict ∧
            ∀ q, s.gained t q (s.stationNotices t st q ++ spanNotices j l .resumed .opened q ++
              t.verdictNotices j l (s.span j).verdict q)
        else t.span j = s.span j

/-- R12, R19, R20, R69, R79, R84, R129: when an interior station leaves IN_SERVICE and neither of the spans it ends is
CLOSED, the two merge: queue diverted, totals summed, latch joined, the later hold kept, an epoch started, the state set by
the ends. Each port is told of the station, then of the span, then of its verdict (R7, R126). -/
def Obligations.MergeOfHeldParts : Prop :=
  ∀ (s : State) (c : Instr) (st : StationId) (k j : SpanId) (lk lj : SpanLine), s.leavesBy c st → s.topologyHolds →
    0 < st.val → st.val + 1 < s.n → k.downStation = st → (s.span k).line = some lk → (s.span j).line = some lj →
    lj.upstream = st → (s.span k).state ≠ .closed → (s.span j).state ≠ .closed →
    ∃ t l, exec c s = .next t ∧ t.queue j = s.queue j ++ s.queue k ∧ t.queue k = [] ∧ t.free = s.free ∧
      t.span k = Span.blank ∧ (t.span j).line = some l ∧
      l.upstream = lk.upstream ∧ l.first = lk.first ∧ l.last = j ∧ l.vSpan = lk.vSpan + lj.vSpan ∧
      t.drawnFromSegments j l ∧ l.thr = ⟨lk.thr.tLeak + lj.thr.tLeak, lk.thr.tDrift + lj.thr.tDrift, lk.thr.tDep + lj.thr.tDep,
        max lk.thr.vC lj.thr.vC, lj.thr.m, lj.thr.nS, lj.thr.nC⟩ ∧
      (t.span j).q = min ((s.span j).q + (s.span k).q) (2 ^ 48 - 1) ∧
      (t.span j).s = min ((s.span j).s + (s.span k).s) (2 ^ 48 - 1) ∧
      (t.span j).d = min ((s.span j).d + (s.span k).d) (2 ^ 48 - 1) ∧
      (t.span j).latch = ((s.span j).latch || (s.span k).latch) ∧
      ((s.span j).hold = none → (t.span j).hold = (s.span k).hold) ∧
      ((s.span k).hold = none → (t.span j).hold = (s.span j).hold) ∧
      (∀ a b, (s.span j).hold = some a → (s.span k).hold = some b →
        (t.span j).hold = some (if (a - s.lineTime).toNat < (b - s.lineTime).toNat then b else a)) ∧
      (t.span j).epochStarted s.lineTime ∧ (t.span j).latchedOrBlind ∧
      (t.span j).state = (if s.inService lk.upstream = true ∧ s.inService j.downStation = true then .opened
        else .suspended) ∧
      s.endsTold t j l (.span j .merged (t.span j).state) ∧ s.verdictTold t j l (s.span j).verdict ∧
      (∀ q, s.gained t q (s.stationNotices t st q ++ spanNotices j l .merged (t.span j).state q ++
        t.verdictNotices j l (s.span j).verdict q)) ∧
      s.sameWatches t ∧ ∀ i, i ≠ j → i ≠ k → t.span i = s.span i ∧ t.queue i = s.queue i

/-- R12, R15, R19, R68: when an interior station leaves IN_SERVICE and a span it ends is CLOSED, the result is CLOSED, and
the parcels of a part that was not are returned to the tail of the free list, head first. Each port is told of the station,
then of the verdict, then of the span (R7, R126). -/
def Obligations.MergeWithClosedPart : Prop :=
  ∀ (s : State) (c : Instr) (st : StationId) (k j : SpanId) (lk lj : SpanLine), s.leavesBy c st → s.topologyHolds →
    s.closedIsEmpty → 0 < st.val → st.val + 1 < s.n → k.downStation = st → (s.span k).line = some lk →
    (s.span j).line = some lj → lj.upstream = st → (s.span k).state = .closed ∨ (s.span j).state = .closed →
    ∃ t l, exec c s = .next t ∧ t.queue j = [] ∧ t.queue k = [] ∧
      t.free = s.free ++ indicesOf (s.queue k) ++ indicesOf (s.queue j) ∧
      t.span k = Span.blank ∧ t.span j = { Span.blank with line := some l } ∧
      l.upstream = lk.upstream ∧ l.first = lk.first ∧ l.last = j ∧ l.vSpan = lk.vSpan + lj.vSpan ∧
      t.drawnFromSegments j l ∧
      s.endsTold t j l (.span j .merged .closed) ∧ s.verdictTold t j l (s.span j).verdict ∧
      (∀ q, s.gained t q (s.stationNotices t st q ++ t.verdictNotices j l (s.span j).verdict q ++
        spanNotices j l .merged .closed q)) ∧
      s.sameWatches t ∧ ∀ i, i ≠ j → i ≠ k → t.span i = s.span i ∧ t.queue i = s.queue i

/-- R12, R21: when an interior station returns to IN_SERVICE inside a CLOSED span, the span splits in two CLOSED spans and no
parcel moves. Each port is told of the station, then of the new upstream span, then of the other (R7). -/
def Obligations.SplitOfClosedSpan : Prop :=
  ∀ (s : State) (c : Instr) (st : StationId) (k j : SpanId) (l : SpanLine), s.returnsBy c st → s.topologyHolds →
    0 < st.val → st.val + 1 < s.n → k.downStation = st → (s.span j).line = some l → l.upstream.val < k.num → k.num ≤ j.num →
    (s.span j).state = .closed →
    ∃ t lk lj, exec c s = .next t ∧ t.span k = { Span.blank with line := some lk } ∧
      t.span j = { s.span j with line := some lj } ∧
      lk.upstream = l.upstream ∧ lk.first = l.first ∧ lk.last = k ∧ lj.upstream = st ∧ lj.last = j ∧
      lk.vSpan + lj.vSpan = l.vSpan ∧ t.drawnFromSegments k lk ∧ t.drawnFromSegments j lj ∧
      s.endsTold t k lk (.span k .split .closed) ∧ s.endsTold t j lj (.span j .split .closed) ∧
      (∀ q, s.gained t q (s.stationNotices t st q ++ spanNotices k lk .split .closed q ++
        spanNotices j lj .split .closed q)) ∧
      s.sameStore t ∧ s.sameWatches t ∧ ∀ i, i ≠ j → i ≠ k → t.span i = s.span i

/-- R12, R22, R57, R70 to R72, R84: when an interior station returns to IN_SERVICE inside a span that is not CLOSED, the
queue is cut at the new fill volume of the downstream half, keeping order, volume and solids, after the allocation, with the
reclaim it may need, that a straddling parcel takes: its downstream part ends the one queue, its upstream part, in the record
allocated, heads the other; and both halves start anew. Each port is told of the station, then of the new upstream span, then
of the other, then of their verdicts, between which no order is stated (R7, R126; log entry 19). That Q and S of a half are
held at 2^48 - 1 is the model's reading (R79; log entry 12, DEDUCED). -/
def Obligations.SplitOfHeldSpan : Prop :=
  ∀ (s : State) (c : Instr) (st : StationId) (k j : SpanId) (l : SpanLine), s.returnsBy c st → s.topologyHolds →
    s.absentIsClosed → s.closedIsEmpty →
    0 < st.val → st.val + 1 < s.n → k.downStation = st → (s.span j).line = some l → l.upstream.val < k.num → k.num ≤ j.num →
    (s.span j).state ≠ .closed →
    ∃ t u lk lj, exec c s = .next t ∧ (t.span k).line = some lk ∧ (t.span j).line = some lj ∧
      lk.upstream = l.upstream ∧ lj.upstream = st ∧ lk.vSpan + lj.vSpan = l.vSpan ∧
      t.drawnFromSegments k lk ∧ t.drawnFromSegments j lj ∧
      u = (if (cutWalk lj.vSpan (s.queue j)).2.1 = none then s else s.allocate.2) ∧
      s.offered t (if (cutWalk lj.vSpan (s.queue j)).2.1 = none then [] else s.reclaimOffers) ∧
      ((cutWalk lj.vSpan (s.queue j)).2.1 = none ∨ (cutWalk lj.vSpan (u.queue j)).2.1 ≠ none → t.free = u.free) ∧
      (∀ stay straddler go, cutWalk lj.vSpan (u.queue j) = (stay, straddler, go) →
        (straddler = none → t.queue j = stay ∧ t.queue k = go) ∧
        ∀ p a, straddler = some (p, a) → t.queue j = stay ++ [p.downPart a] ∧
          t.queue k = p.upPart a s.allocate.1 :: go) ∧
      volumeIn (t.queue j) = min lj.vSpan (volumeIn (u.queue j)) ∧
      volumeIn (t.queue j) + volumeIn (t.queue k) = volumeIn (u.queue j) ∧
      solidsIn (t.queue j) + solidsIn (t.queue k) = solidsIn (u.queue j) ∧
      (∀ h, h = k ∨ h = j →
        (t.span h).q = min (volumeIn (t.queue h)) (2 ^ 48 - 1) ∧ (t.span h).s = min (solidsIn (t.queue h)) (2 ^ 48 - 1) ∧
        (t.span h).d = 0 ∧ (t.span h).latch = (s.span j).latch ∧ (t.span h).hold = (s.span j).hold ∧
        (t.span h).epochStarted s.lineTime ∧ (t.span h).latchedOrBlind) ∧
      (t.span k).state = (if s.inService l.upstream = true then .opened else .suspended) ∧
      (t.span j).state = (if s.inService j.downStation = true then .opened else .suspended) ∧
      s.endsTold t k lk (.span k .split (t.span k).state) ∧ s.endsTold t j lj (.span j .split (t.span j).state) ∧
      s.verdictTold t k lk (s.span j).verdict ∧ s.verdictTold t j lj (s.span j).verdict ∧
      (∀ q, ∃ vs, vs.Perm (t.verdictNotices k lk (s.span j).verdict q ++ t.verdictNotices j lj (s.span j).verdict q) ∧
        s.gainedBesideWatch t q (s.stationNotices t st q ++ spanNotices k lk .split (t.span k).state q ++
          spanNotices j lj .split (t.span j).state q ++ vs)) ∧
      ∀ i, i ≠ j → i ≠ k → t.span i = s.span i ∧ t.queue i = u.queue i

/-- R70, R71: where the walk of split-at-volume meets a straddling parcel, the parcels before it stay and those after it go,
the cut lies strictly inside it at the target, and its two parts hold its volume and its solids, the downstream part in its
own record and the upstream part in the one allocated, both with its origin, entry time, bank and flags. Where it meets none,
the parcels that stay and those that go are the queue in order, and none goes before the target is full. -/
def Obligations.CutSharesTheStraddlingParcel : Prop :=
  (∀ (target : Nat) (ps stay go : List Parcel), cutWalk target ps = (stay, none, go) →
    ps = stay ++ go ∧ volumeIn stay ≤ target ∧ (go ≠ [] → volumeIn stay = target)) ∧
  ∀ (target : Nat) (ps stay go : List Parcel) (p : Parcel) (a i : Nat), cutWalk target ps = (stay, some (p, a), go) →
    ps = stay ++ p :: go ∧ 0 < a ∧ a < p.volume ∧ volumeIn stay + a = target ∧
      (p.downPart a).index = p.index ∧ (p.downPart a).origin = p.origin ∧ (p.downPart a).entry = p.entry ∧
      (p.downPart a).bank = p.bank ∧ (p.downPart a).flags = p.flags ∧ (p.downPart a).volume = a ∧
      (p.downPart a).volume + (p.upPart a i).volume = p.volume ∧
      (p.downPart a).solids = p.solids * a / p.volume ∧
      (p.downPart a).solids + (p.upPart a i).solids = p.solids ∧ (p.upPart a i).index = i ∧
      (p.upPart a i).origin = p.origin ∧ (p.upPart a i).entry = p.entry ∧ (p.upPart a i).bank = p.bank ∧
      (p.upPart a i).flags = p.flags

/-! Readings (R23 to R50). -/

/-- R25, R26, R6: a READING of a station not IN_SERVICE is refused OUT_OF_SERVICE, one to a queue of 8 is refused FULL, and
any other joins the tail of a queue that holds a reading, with the tag counter's value, restarting the silence timer. -/
def Obligations.ReadingRefusedOrQueued : Prop :=
  ∀ (s : State) (p : PortId) (vRaw t rhoM : BitVec 16) (flush fault : Bool), s.takes p →
    (s.inService p = false →
      exec (.reading p vRaw t rhoM flush fault) s = .next (s.answered p 0x10 .outOfService .none)) ∧
    (s.inService p = true → 8 ≤ (s.station p).queue.length →
      exec (.reading p vRaw t rhoM flush fault) s = .next (s.answered p 0x10 .full .none)) ∧
    (s.inService p = true → (s.station p).queue.length < 8 → (s.station p).queue ≠ [] →
      exec (.reading p vRaw t rhoM flush fault) s =
        .next ((s.setStation p { s.station p with
          queue := (s.station p).queue ++ [⟨(s.station p).tag, vRaw.toNat, t.toNat, rhoM.toNat, flush, fault,
            (s.station p).active, .queued⟩]
          tag := (s.station p).tag + 1
          silence := some (s.lineTime + BitVec.ofNat 32 s.tStale) }).answered p 0x10 .done (.tag (s.station p).tag)))

/-- R24, R25, R31: a READING accepted into an empty queue is converted at once; where that makes it READY, nothing but its
station and its port's reply changes. -/
def Obligations.ReadingAtHeadConverts : Prop :=
  ∀ (s : State) (p : PortId) (vRaw t rhoM : BitVec 16) (flush fault : Bool) (r : Reading) (c : Conversion) (m : Nat),
    s.takes p → s.inService p = true → (s.station p).queue = [] →
    r = ⟨(s.station p).tag, vRaw.toNat, t.toNat, rhoM.toNat, flush, fault, (s.station p).active, .queued⟩ →
    convert ((s.station p).banks.get r.bank) (s.station p).lastGood r = .ready c m →
    exec (.reading p vRaw t rhoM flush fault) s =
      .next ((s.setStation p { s.station p with
        queue := [{ r with stage := .ready c m }]
        lastGood := lastGoodAfter ((s.station p).banks.get r.bank) (s.station p).lastGood r
        tag := (s.station p).tag + 1
        silence := some (s.lineTime + BitVec.ofNat 32 s.tStale) }).answered p 0x10 .done (.tag (s.station p).tag))

/-- R39: a READING that converts AWAITING starts its station's resolve timer, puts an URGENT RESOLVE notice in its own
port's queue, and lets the watch unit sample RESOLVES. -/
def Obligations.OutOfRangeReadingRaisesResolve : Prop :=
  ∀ (s : State) (p : PortId) (vRaw t rhoM : BitVec 16) (flush fault : Bool) (r : Reading) (c : Conversion),
    s.takes p → s.inService p = true → (s.station p).queue = [] →
    r = ⟨(s.station p).tag, vRaw.toNat, t.toNat, rhoM.toNat, flush, fault, (s.station p).active, .queued⟩ →
    convert ((s.station p).banks.get r.bank) (s.station p).lastGood r = .awaiting c →
    ∃ u, exec (.reading p vRaw t rhoM flush fault) s = .next u ∧
      u.station p = { s.station p with
        queue := [{ r with stage := .awaiting c }]
        tag := (s.station p).tag + 1
        silence := some (s.lineTime + BitVec.ofNat 32 s.tStale)
        resolve := some (s.lineTime + BitVec.ofNat 32 s.tRes) } ∧
      (∃ x ∈ (u.port p).urgent, x.body = .resolve p r.tag c.cls r.rhoM c.v r.bank) ∧
      s.offered u [⟨.resolves, 1, none, some p, none⟩] ∧
      s.sameStationsBut u p ∧ s.sameSetUp u ∧ s.sameSegments u ∧ s.sameSpans u ∧ s.sameStore u ∧ s.sameLinksBut u p ∧
      s.repliedAt u p ⟨0x10, .done, .tag (s.station p).tag⟩

/-- R33: a reading of volume 0 is IDLE and READY, with no flag, fraction 0 and mass 0, whatever its flags and density, and
leaves the last-good composition. -/
def Obligations.IdleReadingConverts : Prop :=
  ∀ (b : Bank) (lg : Option Composition) (r : Reading), (r.vRaw * b.kQ + 5000) / 10000 = 0 →
    convert b lg r = .ready ⟨0, max 100 (min r.t 60000), .idle, some 0, Flags.none⟩ 0 ∧ lastGoodAfter b lg r = lg

/-- R34: the class of a reading of volume above 0, by the first test that holds, and its solids fraction. -/
def Obligations.ClassIsTheFirstTest : Prop :=
  ∀ (b : Bank) (r : Reading) (v : Nat), 0 < v → b.rhoW + 500 ≤ b.rhoS → b.deltaW ≤ b.rhoW →
    (r.flush = true → classify b r v = .flush) ∧
    (r.flush = false → r.fault = true → classify b r v = .fault) ∧
    (r.flush = false → r.fault = false →
      (r.rhoM + b.deltaW < b.rhoW → classify b r v = .low) ∧
      (b.rhoW ≤ r.rhoM + b.deltaW → r.rhoM ≤ b.rhoW → classify b r v = .water) ∧
      (b.rhoW < r.rhoM → (r.rhoM - b.rhoW) * 10000 / (b.rhoS - b.rhoW) ≤ b.cMax * 10 → classify b r v = .slurry) ∧
      (b.rhoW < r.rhoM → b.cMax * 10 < (r.rhoM - b.rhoW) * 10000 / (b.rhoS - b.rhoW) → classify b r v = .high))

/-- R35 to R39: what the conversion of a reading gives by its class: an in-range class READY with its fraction, mass and
flags, an out-of-range one by the bank's mode, and the last-good composition that only WATER and SLURRY set. -/
def Obligations.ConversionFollowsClass : Prop :=
  ∀ (b : Bank) (lg : Option Composition) (r : Reading) (v tC f : Nat), v = (r.vRaw * b.kQ + 5000) / 10000 →
    tC = max 100 (min r.t 60000) → f = (r.rhoM - b.rhoW) * 10000 / (b.rhoS - b.rhoW) →
    (classify b r v = .flush → convert b lg r =
        .ready ⟨v, tC, .flush, some 0, { Flags.none with flush := true, water := true }⟩ 0 ∧
      lastGoodAfter b lg r = lg) ∧
    (classify b r v = .water → convert b lg r = .ready ⟨v, tC, .water, some 0, { Flags.none with water := true }⟩ 0 ∧
      lastGoodAfter b lg r = some ⟨0, b.rhoS⟩) ∧
    (classify b r v = .slurry → convert b lg r =
        .ready ⟨v, tC, .slurry, some f, Flags.none⟩ ((v * f * b.rhoS + 5000000) / 10000000) ∧
      lastGoodAfter b lg r = some ⟨f, b.rhoS⟩) ∧
    (∀ cls, classify b r v = cls → cls = .low ∨ cls = .high ∨ cls = .fault → lastGoodAfter b lg r = lg ∧
      (b.mode = .refer → convert b lg r = .awaiting ⟨v, tC, cls, none, Flags.none⟩) ∧
      (b.mode = .limit → cls = .low → convert b lg r =
        .ready ⟨v, tC, cls, some 0, { Flags.none with estimated := true, water := true }⟩ 0) ∧
      (b.mode = .limit → cls = .high → convert b lg r =
        .ready ⟨v, tC, cls, some (b.cMax * 10), { Flags.none with estimated := true }⟩
          ((v * (b.cMax * 10) * b.rhoS + 5000000) / 10000000)) ∧
      (b.mode = .limit → cls = .fault → lg = none → convert b lg r =
        .ready ⟨v, tC, cls, some 0, { Flags.none with estimated := true, water := true }⟩ 0) ∧
      ∀ g, b.mode = .limit → cls = .fault → lg = some g → convert b lg r =
        .ready ⟨v, tC, cls, some g.cBp, { Flags.none with estimated := true }⟩
          ((v * g.cBp * g.rhoS + 5000000) / 10000000))

/-- R38, R40, R41, R178: a RESOLVE_ANSWER with the tag of the AWAITING head makes it READY and REFERRED with the capped mass,
and any other is answered LATE and changes nothing; at the resolve expiry the AWAITING head becomes READY by a last-good
hold, ESTIMATED. Either stops the timer and withdraws the RESOLVE notice. -/
def Obligations.ResolveEnds : Prop :=
  (∀ (s : State) (p : PortId) (tag : BitVec 8) (mAns : BitVec 32), s.takes p →
      (∀ r rest c, (s.station p).queue = r :: rest → r.stage = .awaiting c → r.tag = tag →
        ∃ t, exec (.resolveAnswer p tag mAns) s = .next t ∧
          t.station p = { s.station p with
            queue := { r with stage := Stage.ready { c with flags := { c.flags with referred := true } }
                                (min mAns.toNat (c.v * ((s.station p).banks.get r.bank).rhoS / 1000)) } :: rest
            resolve := none } ∧
          (t.port p).urgent = (s.port p).urgent.filter (fun x => x.key != .resolve p) ∧
          (t.port p).routine = (s.port p).routine.filter (fun x => x.key != .resolve p) ∧
          (∀ q, q ≠ p → t.port q = s.port q) ∧
          s.sameStationsBut t p ∧ s.sameSetUp t ∧ s.sameSegments t ∧ s.sameSpans t ∧ s.sameStore t ∧ s.sameWatches t ∧
          s.repliedAt t p ⟨0x11, .done, .none⟩) ∧
      ((∀ r rest c, (s.station p).queue = r :: rest → r.stage = .awaiting c → r.tag ≠ tag) →
        exec (.resolveAnswer p tag mAns) s = .next (s.answered p 0x11 .late .none))) ∧
  (∀ (s : State) (st : StationId) (r : Reading) (rest : List Reading) (c : Conversion),
      timerDue s.lineTime (s.station st).resolve = true → (s.station st).queue = r :: rest → r.stage = .awaiting c →
      ∃ t, exec (.resolveExpiry st) s = .next t ∧
        t.station st = { s.station st with
          queue := { r with stage :=
            match (s.station st).lastGood with
            | none => .ready { c with
                cBp := some 0, flags := { c.flags with estimated := true, water := true } } 0
            | some g => .ready { c with cBp := some g.cBp, flags := { c.flags with estimated := true } }
                ((c.v * g.cBp * g.rhoS + 5000000) / 10000000) } :: rest
          resolve := none } ∧
        (t.port st).urgent = (s.port st).urgent.filter (fun x => x.key != .resolve st) ∧
        (t.port st).routine = (s.port st).routine.filter (fun x => x.key != .resolve st) ∧
        (∀ q, q ≠ st → t.port q = s.port q) ∧
        s.sameStationsBut t st ∧ s.sameSetUp t ∧ s.sameSegments t ∧ s.sameSpans t ∧ s.sameStore t ∧ s.sameWatches t ∧
        s.sameLinks t)

/-- R28, R29, R30: BANK_WRITE with a bank number of 0 to 3, every field in its range and rho_s at least rho_w + 500 replaces
the six fields of that bank of its own station, and any other is answered OUT_OF_RANGE and changes no bank; BANK_SELECT sets
the requester's active bank or answers OUT_OF_RANGE; BANK_READ reports a bank and the active bank, or answers NO_STATION or
OUT_OF_RANGE. That it answers NO_STATION where both hold is the model's choice (log entry 20, DESIGN CHOICE). -/
def Obligations.BankRequests : Prop :=
  (∀ (s : State) (p : PortId) (bank : BitVec 8) (r : BankWire), s.takes p →
      if ok : bank.toNat < 4 ∧ (990 ≤ r.rhoW.toNat ∧ r.rhoW.toNat ≤ 1100) ∧
          (2000 ≤ r.rhoS.toNat ∧ r.rhoS.toNat ≤ 4000) ∧ r.rhoW.toNat + 500 ≤ r.rhoS.toNat ∧
          (50 ≤ r.cMax.toNat ∧ r.cMax.toNat ≤ 600) ∧ r.deltaW.toNat ≤ 50 ∧
          (9000 ≤ r.kQ.toNat ∧ r.kQ.toNat ≤ 11000) ∧ r.mode.toNat < 2 then
        exec (.bankWrite p bank r) s = .next ((s.setStation p { s.station p with
          banks := (s.station p).banks.set ⟨bank.toNat, ok.1⟩ ⟨r.rhoW.toNat, r.rhoS.toNat, r.cMax.toNat, r.deltaW.toNat,
            r.kQ.toNat, if r.mode.toNat = 0 then .refer else .limit⟩ }).answered p 0x18 .done .none)
      else exec (.bankWrite p bank r) s = .next (s.answered p 0x18 .outOfRange .none)) ∧
  (∀ (s : State) (p : PortId) (bank : BitVec 8), s.takes p →
      if h : bank.toNat < 4 then
        exec (.bankSelect p bank) s =
          .next ((s.setStation p { s.station p with active := ⟨bank.toNat, h⟩ }).answered p 0x19 .done .none)
      else exec (.bankSelect p bank) s = .next (s.answered p 0x19 .outOfRange .none)) ∧
  (∀ (s : State) (p : PortId) (station bank : BitVec 8), s.takes p → s.n ≤ 4 →
      if hs : station.toNat < s.n ∧ station.toNat < 4 then
        if hb : bank.toNat < 4 then
          exec (.bankRead p station bank) s = .next (s.answered p 0x1A .done
            (.bank ⟨station.toNat, hs.2⟩ ⟨bank.toNat, hb⟩ (s.station ⟨station.toNat, hs.2⟩).active
              ((s.station ⟨station.toNat, hs.2⟩).banks.get ⟨bank.toNat, hb⟩)))
        else exec (.bankRead p station bank) s = .next (s.answered p 0x1A .outOfRange .none)
      else exec (.bankRead p station bank) s = .next (s.answered p 0x1A .noStation .none))

/-- R31, R39, R44 to R46, R50: GRANT goes to the first port of the arbiter's search whose head is READY: that port becomes
the last granted, its head leaves, and the reading behind it is converted, raising its resolve if it converts AWAITING;
every other station stands, and so do the links, the segments and the set-up. A reading of an interior station that is not
IN_SERVICE reaches no span; one of an interior station that is updates the span that ends there, if OPEN, and then flows
into the span that starts there, if OPEN, which finds the store as the update left it. A VERDICT notice of the update comes
before the WATCH notices of its samples (R94). -/
def Obligations.GrantFollowsRotation : Prop :=
  (∀ (s : State) (p : PortId) (r : Reading) (c : Conversion) (m : Nat), s.grantsTo p r c m →
      ∃ t, exec .grant s = .next t ∧ t.lastGranted = some p ∧ (s.station p).headRemoved (t.station p) ∧
        (∀ x cx, (s.station p).nextAwaits x cx →
          (t.station p).resolve = some (s.lineTime + BitVec.ofNat 32 s.tRes) ∧
          (s.port p).tells (t.port p) (.resolve p x.tag cx.cls x.rhoM cx.v x.bank) true) ∧
        ((∀ x cx, ¬ (s.station p).nextAwaits x cx) → (t.station p).resolve = (s.station p).resolve) ∧
        (∀ q, q ≠ p → t.station q = s.station q) ∧ s.sameSetUp t ∧ s.sameSegments t ∧ s.sameLinks t ∧
        (∀ j, (t.span j).line = (s.span j).line ∧ (t.span j).state = (s.span j).state ∧
          (t.span j).hold = (s.span j).hold)) ∧
  (∀ (s : State) (p : PortId) (r : Reading) (c : Conversion) (m : Nat), s.grantsTo p r c m → s.topologyHolds →
      0 < p.val → p.val + 1 < s.n → s.inService p = false →
      ∃ t, exec .grant s = .next t ∧ s.sameSpans t ∧ s.sameStore t ∧ s.offered t ((s.station p).resolveOffers p)) ∧
  (∀ (s : State) (p : PortId) (r : Reading) (c : Conversion) (m : Nat) (j k g : SpanId) (lj lk : SpanLine),
      s.grantsTo p r c m → s.topologyHolds → 0 < p.val → p.val + 1 < s.n → s.inService p = true →
      j.downStation = p → (s.span j).line = some lj → (s.span k).line = some lk → lk.upstream = p → g.upStation = p →
      ∃ u t outs ins, exec .grant s = .next t ∧ s.sameSetUp u ∧ s.sameSegments u ∧
        (if (s.span j).state = .opened then s.updatedBy u j lj c m outs else s.sameSpans u ∧ s.sameStore u ∧ outs = []) ∧
        (if (s.span k).state = .opened then u.filledBy t k g p r.bank c m ins
          else u.sameSpans t ∧ u.sameStore t ∧ ins = []) ∧
        s.offered t (outs ++ ins ++ (s.station p).resolveOffers p) ∧ s.verdictTold t j lj (s.span j).verdict ∧
        s.verdictBeforeWatch t j lj)

/-- R46 to R49, R50, R80, R89 to R92, R94, R96, R98, R118, R152: a granted reading of the tail makes one balance update of
the OPEN span that ends there: the drain, the record, the window, the velocity, the evidence if the update is counted, the
verdict derived and told, and then the samples offered in their order, so that a VERDICT notice comes before the WATCH notices
they bring; and nothing else of the spans or the store changes. A span that is not OPEN is not reached, and no update sample
is offered. -/
def Obligations.TailGrantUpdatesSpan : Prop :=
  ∀ (s : State) (p : PortId) (r : Reading) (c : Conversion) (m : Nat) (j : SpanId) (l : SpanLine),
    s.grantsTo p r c m → s.topologyHolds → p.val + 1 = s.n → 2 ≤ s.n → j.downStation = p → (s.span j).line = some l →
    ∃ t, exec .grant s = .next t ∧
      ((s.span j).state = .opened → ∃ outs, s.updatedBy t j l c m outs ∧
        s.offered t (outs ++ (s.station p).resolveOffers p) ∧ s.verdictTold t j l (s.span j).verdict ∧
        s.verdictBeforeWatch t j l) ∧
      ((s.span j).state ≠ .opened →
        s.sameSpans t ∧ s.sameStore t ∧ s.offered t ((s.station p).resolveOffers p))

/-- R46, R48, R49, R57, R80, R87, R88, R152: a granted reading of the head makes one inflow to the OPEN span that starts
there: a parcel in an allocated record at the tail of the queue, the totals raised, v_in set and the samples offered, those
of a reclaim first; an IDLE reading sets v_in alone; and a span that is not OPEN is not reached. -/
def Obligations.HeadGrantFillsSpan : Prop :=
  ∀ (s : State) (r : Reading) (c : Conversion) (m : Nat) (j : SpanId) (l : SpanLine),
    s.grantsTo 0 r c m → s.topologyHolds → (s.span j).line = some l → l.upstream = 0 →
    ∃ t, exec .grant s = .next t ∧
      ((s.span j).state = .opened → ∃ ins, s.filledBy t j .one 0 r.bank c m ins ∧
        s.offered t (ins ++ (s.station 0).resolveOffers 0)) ∧
      ((s.span j).state ≠ .opened →
        s.sameSpans t ∧ s.sameStore t ∧ s.offered t ((s.station 0).resolveOffers 0))

/-! The parcel store (R51 to R75). -/

/-- R53, R63 to R67: a drain takes its litres from the head: drained volume and shortfall make up the litres asked, nothing of
the queue's volume or solids is lost, the records drained whole are the first of the queue in order, each reported whole with
all that its parcel holds, head first, and a shortfall leaves the queue empty. A parcel drained in part stays at the head with
what the part leaves, the part is reported last and has the floor of its share of the solids, and every parcel left keeps at
least 1 litre. The taint is set exactly by a portion ESTIMATED or TRANSIENT. -/
def Obligations.DrainKeepsSlurry : Prop :=
  ∀ (litres : Nat) (ps : List Parcel) (d : DrainReport), d = drainQueue litres ps →
    d.drained + d.shortfall = litres ∧ volumeIn d.queue + d.drained = volumeIn ps ∧ solidsIn d.queue + d.e = solidsIn ps ∧
      d.freed ++ indicesOf d.queue = indicesOf ps ∧ (0 < d.shortfall → d.queue = []) ∧
      (d.portions.filter (fun x => x.whole)).length = d.freed.length ∧
      d.portions.length ≤ d.freed.length + 1 ∧
      d.portions.take d.freed.length = (ps.take d.freed.length).map (fun p =>
        ⟨true, p.volume, p.solids, p.origin, p.entry, p.bank, p.flags⟩) ∧
      (d.portions.length = d.freed.length → d.queue = ps.drop d.freed.length) ∧
      (d.taint = true ↔ ∃ x ∈ d.portions, x.flags.estimated = true ∨ x.flags.transient = true) ∧
      (∀ x ∈ d.portions, x.whole = false → ∃ before p after, ps = before ++ p :: after ∧ before.length = d.freed.length ∧
        0 < x.volume ∧ x.volume < p.volume ∧ x.solids = p.solids * x.volume / p.volume ∧
        x.origin = p.origin ∧ x.entry = p.entry ∧ x.bank = p.bank ∧ x.flags = p.flags ∧
        d.queue = { p with volume := p.volume - x.volume, solids := p.solids - x.solids } :: after) ∧
      ((∀ p ∈ ps, 1 ≤ p.volume) → ∀ p ∈ d.queue, 1 ≤ p.volume)

/-- R55, R57 to R61: an allocation takes the head of the free list and nothing else changes; with an empty free list it joins
the two head parcels of the fullest queue, the higher span id's on a tie, keeping volume and solids up to the 40-bit limit,
frees the second record and takes it, and no span record changes. -/
def Obligations.AllocationReclaims : Prop :=
  Flags.none = ⟨false, false, false, false, false, false, false⟩ ∧
  (∀ (s : State) (i : Nat) (rest : List Nat), s.free = i :: rest → s.allocate = (i, s.setFree rest)) ∧
  ∀ (s : State) (a b : Parcel) (ps : List Parcel), s.free = [] → s.queue s.fullest = a :: b :: ps →
    s.allocate.1 = b.index ∧ s.allocate.2.free = [] ∧
      s.allocate.2.queue s.fullest =
        { a with
          volume := min (a.volume + b.volume) (2 ^ 40 - 1)
          solids := min (a.solids + b.solids) (2 ^ 40 - 1)
          flags :=
            { prime := a.flags.prime || b.flags.prime
              water := a.flags.water || b.flags.water
              flush := a.flags.flush || b.flags.flush
              estimated := a.flags.estimated || b.flags.estimated
              referred := a.flags.referred || b.flags.referred
              coalesced := true
              transient := a.flags.transient || b.flags.transient } } :: ps ∧
      (∀ j, j ≠ s.fullest → s.allocate.2.queue j = s.queue j) ∧
      (∀ j, (s.queue j).length ≤ (s.queue s.fullest).length) ∧
      (∀ j, (s.queue j).length = (s.queue s.fullest).length → j.num ≤ s.fullest.num) ∧
      s.sameSpans s.allocate.2 ∧ s.sameStations s.allocate.2 ∧ s.sameSegments s.allocate.2 ∧ s.sameSetUp s.allocate.2 ∧
      s.sameLinks s.allocate.2 ∧ s.offered s.allocate.2 [⟨.reclaims, 1, some s.fullest, none, none⟩]

/-- R13, R14, R57, R61, R84, R111: SPAN_OPEN by the upstream end of a CLOSED span whose ends are both IN_SERVICE, with c_fill at
most c_max times 10, opens it with a prime parcel in an allocated record, after the reclaim from another queue that an empty
free list needs, and starts an epoch. Each end is told of the span, then of its verdict (R126). -/
def Obligations.SpanOpenOpens : Prop :=
  ∀ (s u : State) (p : PortId) (id : BitVec 8) (cFill : BitVec 16) (j : SpanId) (l : SpanLine) (b : Bank) (i : Nat),
    s.takes p → id.toNat = j.num → (s.span j).line = some l → p = l.upstream →
    (s.span j).state = .closed → s.inService l.upstream = true → s.inService j.downStation = true →
    b = (s.station p).banks.get (s.station p).active → cFill.toNat ≤ b.cMax * 10 → s.allocate = (i, u) →
    s.closedIsEmpty →
    ∃ t, exec (.spanOpen p id cFill) s = .next t ∧ t.free = u.free ∧
      t.queue j = [⟨i, p, s.lineTime, l.vSpan, (l.vSpan * cFill.toNat * b.rhoS + 5000000) / 10000000,
        (s.station p).active,
        { Flags.none with prime := true, water := decide (cFill = 0), transient := (s.span j).hold.isSome }⟩] ∧
      (t.span j).state = .opened ∧ (t.span j).line = some l ∧ (t.span j).q = l.vSpan ∧
      (t.span j).s = (l.vSpan * cFill.toNat * b.rhoS + 5000000) / 10000000 ∧ (t.span j).d = 0 ∧ (t.span j).o = 0 ∧
      (t.span j).epochStarted s.lineTime ∧ (t.span j).hold = (s.span j).hold ∧ (t.span j).latch = (s.span j).latch ∧
      (t.span j).latchedOrBlind ∧ s.endsTold t j l (.span j .opened .opened) ∧
      s.verdictTold t j l (s.span j).verdict ∧
      (∀ q, u.gained t q (spanNotices j l .opened .opened q ++ t.verdictNotices j l (s.span j).verdict q)) ∧
      (∀ k, k ≠ j → t.queue k = u.queue k ∧ t.span k = s.span k) ∧ s.sameStations t ∧ s.sameSegments t ∧
      s.offered t s.reclaimOffers ∧ s.sameSetUp t ∧ s.sameLinksBut t p ∧ s.repliedAt t p ⟨0x20, .done, .none⟩

/-- R11, R13, R133: the refusals of SPAN_OPEN and of SETTINGS_AGREE, each by the first condition that holds; a refused request
changes nothing. -/
def Obligations.OpenAndAgreeRefusals : Prop :=
  (∀ (s : State) (p : PortId) (id : BitVec 8) (cFill : BitVec 16), s.takes p →
      ((∀ j, id.toNat = j.num → (s.span j).line = none) →
        exec (.spanOpen p id cFill) s = .next (s.answered p 0x20 .noSpan .none)) ∧
      ∀ j l, id.toNat = j.num → (s.span j).line = some l →
        (p ≠ l.upstream → exec (.spanOpen p id cFill) s = .next (s.answered p 0x20 .notParty .none)) ∧
        (p = l.upstream → (s.span j).state ≠ .closed →
          exec (.spanOpen p id cFill) s = .next (s.answered p 0x20 .wrongState .none)) ∧
        (p = l.upstream → (s.span j).state = .closed → ¬ (s.inService l.upstream = true ∧ s.inService j.downStation = true) →
          exec (.spanOpen p id cFill) s = .next (s.answered p 0x20 .endsNotReady .none)) ∧
        (p = l.upstream → (s.span j).state = .closed → s.inService l.upstream = true →
          s.inService j.downStation = true →
          ((s.station p).banks.get (s.station p).active).cMax * 10 < cFill.toNat →
          exec (.spanOpen p id cFill) s = .next (s.answered p 0x20 .outOfRange .none))) ∧
  (∀ (s : State) (p : PortId) (segment : BitVec 8) (r : SettingsWire), s.takes p →
      ((∀ k : SegId, segment.toNat = k.num → s.n ≤ k.num) →
        exec (.settingsAgree p segment r) s = .next (s.answered p 0x31 .outOfRange .none)) ∧
      ∀ k : SegId, segment.toNat = k.num → k.num < s.n →
        (p ≠ k.upStation → p ≠ k.downStation →
          exec (.settingsAgree p segment r) s = .next (s.answered p 0x31 .notParty .none)) ∧
        (p = k.upStation ∨ p = k.downStation →
          ((s.segment k).proposal = none →
            exec (.settingsAgree p segment r) s = .next (s.answered p 0x31 .wrongState .none)) ∧
          ∀ q, (s.segment k).proposal = some q →
            (q.proposer = p → exec (.settingsAgree p segment r) s = .next (s.answered p 0x31 .notParty .none)) ∧
            (q.proposer ≠ p → q.settings ≠ settingsOf r →
              exec (.settingsAgree p segment r) s = .next (s.answered p 0x31 .mismatch .none))))

/-- R15, R68: SPAN_CLOSE by an end station of a span that is not CLOSED returns its parcels to the free list, zeroes its
record, and tells both ends, of the verdict before the span (R126); of a CLOSED one it answers DONE; from another station,
NOT_PARTY. -/
def Obligations.SpanCloseReleases : Prop :=
  ∀ (s : State) (p : PortId) (id : BitVec 8), s.takes p →
    ((∀ j, id.toNat = j.num → (s.span j).line = none) →
      exec (.spanClose p id) s = .next (s.answered p 0x21 .noSpan .none)) ∧
    ∀ j l, id.toNat = j.num → (s.span j).line = some l →
      (p ≠ l.upstream → p ≠ j.downStation →
        exec (.spanClose p id) s = .next (s.answered p 0x21 .notParty .none)) ∧
      (p = l.upstream ∨ p = j.downStation → (s.span j).state = .closed →
        exec (.spanClose p id) s = .next (s.answered p 0x21 .done .none)) ∧
      (p = l.upstream ∨ p = j.downStation → (s.span j).state ≠ .closed →
        ∃ t, exec (.spanClose p id) s = .next t ∧ t.free = s.free ++ indicesOf (s.queue j) ∧ t.queue j = [] ∧
          t.span j = { Span.blank with line := some l } ∧ s.endsTold t j l (.span j .closed .closed) ∧
          s.verdictTold t j l (s.span j).verdict ∧
          (∀ q, s.gained t q (t.verdictNotices j l (s.span j).verdict q ++ spanNotices j l .closed .closed q)) ∧
          (∀ k, k ≠ j → t.queue k = s.queue k ∧ t.span k = s.span k) ∧ s.sameStations t ∧ s.sameSegments t ∧
          s.sameWatches t ∧ s.sameSetUp t ∧ s.sameLinksBut t p ∧ s.repliedAt t p ⟨0x21, .done, .none⟩)

/-! Span balance (R76 to R103). -/

/-- R96: what pushing an entry does to the window and its sums, for a window whose sums are those of its entries: at most 16
entries, the oldest leaving a full window first, and the sums those of the entries held. -/
def Obligations.WindowPushKeepsSums : Prop :=
  ∀ (sp : Span) (w : WindowEntry), sp.window.length ≤ 16 →
    sp.wI = (sp.window.map (fun x => x.dI)).sum → sp.wV = (sp.window.map (fun x => x.vOut)).sum →
    sp.wE = (sp.window.map (fun x => x.e)).sum →
    (sp.window.length < 16 → (sp.pushEntry w).window = sp.window ++ [w] ∧ (sp.pushEntry w).wI = sp.wI + w.dI ∧
      (sp.pushEntry w).wV = sp.wV + w.vOut ∧ (sp.pushEntry w).wE = sp.wE + w.e) ∧
    (sp.window.length = 16 → (sp.pushEntry w).window = sp.window.tail ++ [w] ∧
      ∀ o ∈ sp.window.head?, (sp.pushEntry w).wI = sp.wI - o.dI + w.dI ∧
        (sp.pushEntry w).wV + o.vOut = sp.wV + w.vOut ∧ (sp.pushEntry w).wE + o.e = sp.wE + w.e) ∧
    (sp.pushEntry w).window.length ≤ 16 ∧
    (sp.pushEntry w).wI = ((sp.pushEntry w).window.map (fun x => x.dI)).sum ∧
    (sp.pushEntry w).wV = ((sp.pushEntry w).window.map (fun x => x.vOut)).sum ∧
    (sp.pushEntry w).wE = ((sp.pushEntry w).window.map (fun x => x.e)).sum

/-- R74, R82, R102: SPAN_READ answers with the span's whole record as it stands; PARCEL_LIST with n and the parcels from the
start position, at most the count asked, or OUT_OF_RANGE for a count above 12; an id that is no current span end is answered
NO_SPAN; neither changes anything. -/
def Obligations.SpanReadAndParcelList : Prop :=
  (∀ (s : State) (p : PortId) (id : BitVec 8), s.takes p →
      ((∀ j, id.toNat = j.num → (s.span j).line = none) →
        exec (.spanRead p id) s = .next (s.answered p 0x22 .noSpan .none)) ∧
      ∀ j l sp, id.toNat = j.num → sp = s.span j → sp.line = some l →
        exec (.spanRead p id) s = .next (s.answered p 0x22 .done
          (.span ⟨j, sp.state, l, (s.queue j).length, sp.q, sp.s, sp.d, sp.o,
            max (-2 ^ 47) (min ((sp.q : Int) - sp.d - l.vSpan) (2 ^ 47 - 1)), sp.inflow, sp.outflow, sp.i, sp.updates,
            sp.epochStart, sp.window.length, sp.wI, sp.wV, sp.wE, sp.vIn, sp.vOut, sp.mark, sp.eLeak, sp.eDep, sp.eDrift,
            sp.verdict, sp.latch, sp.hold⟩))) ∧
  (∀ (s : State) (p : PortId) (id : BitVec 8) (start : BitVec 16) (count : BitVec 8), s.takes p →
      ((∀ j, id.toNat = j.num → (s.span j).line = none) →
        exec (.parcelList p id start count) s = .next (s.answered p 0x23 .noSpan .none)) ∧
      ∀ j l, id.toNat = j.num → (s.span j).line = some l →
        (12 < count.toNat → exec (.parcelList p id start count) s = .next (s.answered p 0x23 .outOfRange .none)) ∧
        (count.toNat ≤ 12 → exec (.parcelList p id start count) s = .next (s.answered p 0x23 .done
          (.parcels j (s.queue j).length start.toNat s.lineTime
            (((s.queue j).drop start.toNat).take count.toNat)))))

/-! Verdicts and transient holds (R104 to R127). -/

/-- R115 to R118: the leak, deposit and drift conditions on the exact excess, the window sum and the last inflow's velocity; a
counted update moves each evidence counter by its own condition, up by 1 to at most 255 or down by 1 to at least 0; leak and
drift by excess exclude each other, and so do deposit and drift by solids. -/
def Obligations.EvidenceMovesByCondition : Prop :=
  (∀ (sp : Span) (l : SpanLine), sp.line = some l →
      (sp.leakHolds l.thr = true ↔ (l.thr.tLeak : Int) ≤ (sp.q : Int) - sp.d - l.vSpan) ∧
      (sp.depositHolds l.thr = true ↔
        (l.thr.tDep : Int) ≤ sp.wI ∧ ∃ v, sp.vIn = some v ∧ v * 1000 < l.thr.vC * (1000 + l.thr.m)) ∧
      (sp.driftHolds l.thr = true ↔
        (sp.q : Int) - sp.d - l.vSpan ≤ -(l.thr.tDrift : Int) ∨ sp.wI ≤ -(l.thr.tDep : Int))) ∧
  (∀ (sp : Span) (t : Thresholds), sp.eLeak ≤ 255 → sp.eDep ≤ 255 → sp.eDrift ≤ 255 → 100 ≤ t.tLeak → 100 ≤ t.tDrift →
      10 ≤ t.tDep →
      (∀ e h e', (e, h, e') = (sp.eLeak, sp.leakHolds t, (sp.evaluate t).eLeak) ∨
          (e, h, e') = (sp.eDep, sp.depositHolds t, (sp.evaluate t).eDep) ∨
          (e, h, e') = (sp.eDrift, sp.driftHolds t, (sp.evaluate t).eDrift) →
        e' ≤ 255 ∧ (h = true → e < 255 → e' = e + 1) ∧ (h = true → e = 255 → e' = 255) ∧
          (h = false → 0 < e → e' + 1 = e) ∧ (h = false → e = 0 → e' = 0)) ∧
      (∀ l, sp.line = some l → ¬ (sp.leakHolds t = true ∧ (sp.q : Int) - sp.d - l.vSpan ≤ -(t.tDrift : Int))) ∧
      ¬ (sp.depositHolds t = true ∧ sp.wI ≤ -(t.tDep : Int)))

/-- R121 to R123: derivation takes the first case that holds, with the hysteresis of DEPOSIT on the previous verdict, and sets
the leak latch exactly with LEAK. -/
def Obligations.DerivationTakesFirstCase : Prop :=
  ∀ (sp : Span) (l : SpanLine), sp.line = some l →
    ((sp.derive).verdict = .leak ↔ (sp.derive).latch = true) ∧
    (sp.latch = true → (sp.derive).verdict = .leak) ∧
    (sp.latch = false → sp.state ≠ .opened ∨ sp.window.length < 16 → (sp.derive).verdict = .blind) ∧
    (sp.latch = false → sp.state = .opened → 16 ≤ sp.window.length →
      (l.thr.nC ≤ sp.eLeak → (sp.derive).verdict = .leak) ∧
      (sp.eLeak < l.thr.nC → l.thr.nS ≤ sp.eLeak → (sp.derive).verdict = .leakSuspect) ∧
      (sp.eLeak < l.thr.nC → sp.eLeak < l.thr.nS →
        (l.thr.nC ≤ sp.eDep ∨ sp.verdict = .deposit ∧ l.thr.nS ≤ sp.eDep → (sp.derive).verdict = .deposit) ∧
        (sp.eDep < l.thr.nC → sp.verdict ≠ .deposit → l.thr.nS ≤ sp.eDep → (sp.derive).verdict = .depositSuspect) ∧
        (sp.eDep < l.thr.nC → sp.eDep < l.thr.nS → l.thr.nS ≤ sp.eDrift → (sp.derive).verdict = .drift) ∧
        (sp.eDep < l.thr.nC → sp.eDep < l.thr.nS → sp.eDrift < l.thr.nS → (sp.derive).verdict = .normal))) ∧
    sp.derive = { sp with verdict := (sp.derive).verdict, latch := (sp.derive).latch }

/-- R104, R106 to R108: while CONFIGURED, a falling edge at a HIGH trip input makes its level LOW and starts the hold of every
span with a segment that has the station at one end, and a release at a LOW one makes it HIGH; at its expiry a hold becomes
absent; nothing else changes. That the level of an unused port moves too, with no span touched, is the model's reading (log
entry 16, DEDUCED), and when an expiry counts as reached is its choice (log entry 6). -/
def Obligations.TripInputsAndHolds : Prop :=
  (∀ (s : State) (p : PortId), s.config = .configured → s.topologyHolds →
      ((s.port p).trip = .high → ∃ t, exec (.tripFallingEdge p) s = .next t ∧
        (∀ q, t.port q = if q = p then { s.port p with trip := .low } else s.port q) ∧
        (∀ j, ((s.span j).line = none → t.span j = s.span j) ∧
          ∀ l, (s.span j).line = some l →
            ((∃ k : SegId, l.upstream.val < k.num ∧ k.num ≤ j.num ∧ (p = k.upStation ∨ p = k.downStation)) →
              t.span j = { s.span j with hold := some (s.lineTime + BitVec.ofNat 32 s.tTrip) }) ∧
            ((∀ k : SegId, l.upstream.val < k.num → k.num ≤ j.num → p ≠ k.upStation ∧ p ≠ k.downStation) →
              t.span j = s.span j)) ∧
        s.sameSetUp t ∧ s.sameStations t ∧ s.sameSegments t ∧ s.sameStore t ∧ s.sameWatches t) ∧
      ((s.port p).trip = .low →
        exec (.tripRelease p) s = .next (s.setPort p { s.port p with trip := .high }))) ∧
  (∀ (s : State) (j : SpanId), timerDue s.lineTime (s.span j).hold = true →
      exec (.holdExpiry j) s = .next (s.setSpan j { s.span j with hold := none }))

/-- R124, R126: VERDICT_CLEAR by an end station of a latched span clears the latch and e_leak and derives the verdict; the
refusals come in order. -/
def Obligations.VerdictClearUnlatches : Prop :=
  ∀ (s : State) (p : PortId) (id : BitVec 8), s.takes p →
    ((∀ j, id.toNat = j.num → (s.span j).line = none) →
      exec (.verdictClear p id) s = .next (s.answered p 0x24 .noSpan .none)) ∧
    ∀ j l, id.toNat = j.num → (s.span j).line = some l →
      (p ≠ l.upstream → p ≠ j.downStation →
        exec (.verdictClear p id) s = .next (s.answered p 0x24 .notParty .none)) ∧
      (p = l.upstream ∨ p = j.downStation → (s.span j).latch = false →
        exec (.verdictClear p id) s = .next (s.answered p 0x24 .notLatched .none)) ∧
      (p = l.upstream ∨ p = j.downStation → (s.span j).latch = true →
        ∃ t, exec (.verdictClear p id) s = .next t ∧
          t.span j = Span.derive { s.span j with latch := false, eLeak := 0 } ∧
          s.verdictTold t j l (s.span j).verdict ∧ (∀ k, k ≠ j → t.span k = s.span k) ∧ s.sameStore t ∧
          s.sameStations t ∧ s.sameSegments t ∧ s.sameWatches t ∧ s.sameSetUp t ∧ s.sameLinksBut t p ∧
          s.repliedAt t p ⟨0x24, .done, .none⟩)

/-! Segment settings (R128 to R142). -/

/-- R8, R128, R131, R132: SETTINGS_PROPOSE by an end of the segment, with a valid record and no proposal pending or its own,
records or replaces the proposal, starts the agreement timer and tells the other end; the refusals come in order. A record is
valid exactly with every field in its range and N_c at least N_s; the ends of segment k are stations k - 1 and k. -/
def Obligations.ProposalRecordedOrRefused : Prop :=
  (∀ x : Settings, x.valid = true ↔ (10 ≤ x.length ∧ x.length ≤ 30000) ∧ (100 ≤ x.dPipe ∧ x.dPipe ≤ 1200) ∧
    (500 ≤ x.vC ∧ x.vC ≤ 6000) ∧ (100 ≤ x.tLeak ∧ x.tLeak ≤ 10000000) ∧ (100 ≤ x.tDrift ∧ x.tDrift ≤ 10000000) ∧
    (10 ≤ x.tDep ∧ x.tDep ≤ 1000000) ∧ x.m ≤ 500 ∧ (1 ≤ x.nS ∧ x.nS ≤ 254) ∧ (x.nS ≤ x.nC ∧ x.nC ≤ 255)) ∧
  (∀ k : SegId, k.upStation.val + 1 = k.num ∧ k.downStation.val = k.num) ∧
  (∀ r : SettingsWire, settingsOf r = ⟨r.length.toNat, r.dPipe.toNat, r.vC.toNat, r.tLeak.toNat, r.tDrift.toNat,
    r.tDep.toNat, r.m.toNat, r.nS.toNat, r.nC.toNat⟩) ∧
  ∀ (s : State) (p : PortId) (segment : BitVec 8) (r : SettingsWire), s.takes p →
    ((∀ k : SegId, segment.toNat = k.num → s.n ≤ k.num) →
      exec (.settingsPropose p segment r) s = .next (s.answered p 0x30 .outOfRange .none)) ∧
    ∀ k : SegId, segment.toNat = k.num → k.num < s.n →
      (p ≠ k.upStation → p ≠ k.downStation →
        exec (.settingsPropose p segment r) s = .next (s.answered p 0x30 .notParty .none)) ∧
      (p = k.upStation ∨ p = k.downStation → (settingsOf r).valid = false →
        exec (.settingsPropose p segment r) s = .next (s.answered p 0x30 .outOfRange .none)) ∧
      (p = k.upStation ∨ p = k.downStation → (settingsOf r).valid = true →
        (∀ q, (s.segment k).proposal = some q → q.proposer ≠ p → q.settings ≠ settingsOf r →
          exec (.settingsPropose p segment r) s = .next (s.answered p 0x30 .conflict .none)) ∧
        ((∀ q, (s.segment k).proposal = some q → q.proposer = p) →
          ∀ other : StationId, other.val = (if p.val = k.num then k.num - 1 else k.num) →
          ∃ t, exec (.settingsPropose p segment r) s = .next t ∧
            t.segment k = { s.segment k with
              proposal := some ⟨p, settingsOf r, s.lineTime + BitVec.ofNat 32 s.tAgree⟩ } ∧
            s.told t other (.settings k .proposed) ∧
            (∀ i, i ≠ k → t.segment i = s.segment i) ∧ (∀ q, q ≠ p → q ≠ other → t.port q = s.port q) ∧
            s.sameStations t ∧ s.sameSpans t ∧ s.sameStore t ∧ s.sameWatches t ∧ s.sameSetUp t ∧ s.sameLinksBut t p ∧
            s.repliedAt t p ⟨0x30, .done,
              .outcome (if (s.segment k).proposal = none then .recorded else .replaced)⟩))

/-- R9, R12, R84, R132, R133, R137 to R139: an agreement by the end that did not propose, by SETTINGS_AGREE with the same
values or by proposing them, applies the pending settings: the segment holds them with its geometry derived, the proposal is
gone, both ends are told, the containing span is re-derived, and a changed geometry starts an epoch unless it is CLOSED, told
after the settings, the span before its verdict (R126, R137). -/
def Obligations.AgreementAppliesSettings : Prop :=
  ∀ (s : State) (p : PortId) (segment : BitVec 8) (r : SettingsWire) (k : SegId) (q : Proposal) (c : Instr) (reply : Reply)
    (j : SpanId) (l : SpanLine), s.takes p → s.topologyHolds → segment.toNat = k.num → k.num < s.n →
    p = k.upStation ∨ p = k.downStation → (s.segment k).proposal = some q → q.proposer ≠ p → q.settings = settingsOf r →
    (c = .settingsAgree p segment r ∧ reply = ⟨0x31, .done, .none⟩) ∨
      (c = .settingsPropose p segment r ∧ (settingsOf r).valid = true ∧ reply = ⟨0x30, .done, .outcome .applied⟩) →
    (s.span j).line = some l → l.upstream.val < k.num → k.num ≤ j.num →
    ∃ t, exec c s = .next t ∧
      t.segment k = ⟨q.settings, (q.settings.dPipe ^ 2 * 7854 + 5000) / 10000,
        ((q.settings.dPipe ^ 2 * 7854 + 5000) / 10000 * q.settings.length + 500) / 1000, none⟩ ∧
      s.told t k.upStation (.settings k .applied) ∧ s.told t k.downStation (.settings k .applied) ∧
      (∃ l', (t.span j).line = some l' ∧ l'.upstream = l.upstream ∧ t.drawnFromSegments j l') ∧
      (t.span j).line = t.lineOf j ∧
      (if (s.segment k).settings.length = q.settings.length ∧ (s.segment k).settings.dPipe = q.settings.dPipe ∨
          (s.span j).state = .closed then
        t.span j = { s.span j with line := (t.span j).line }
      else (t.span j).state = (s.span j).state ∧ (t.span j).epochStarted s.lineTime ∧ (t.span j).latchedOrBlind ∧
        (t.span j).q = (s.span j).q ∧ (t.span j).s = (s.span j).s ∧ (t.span j).d = (s.span j).d ∧
        (t.span j).latch = (s.span j).latch ∧ (t.span j).hold = (s.span j).hold ∧
        s.endsTold t j l (.span j .newEpoch (s.span j).state) ∧ s.verdictTold t j l (s.span j).verdict) ∧
      (∀ i, i ≠ k → t.segment i = s.segment i) ∧ (∀ i, i ≠ j → t.span i = s.span i) ∧
      (∀ x, s.gained t x (appliedNotices k x ++
        if (s.segment k).settings.length = q.settings.length ∧ (s.segment k).settings.dPipe = q.settings.dPipe ∨
          (s.span j).state = .closed then []
        else spanNotices j l .newEpoch (s.span j).state x ++ t.verdictNotices j l (s.span j).verdict x)) ∧
      s.sameStore t ∧ s.sameStations t ∧ s.sameWatches t ∧ s.sameSetUp t ∧ s.sameLinksBut t p ∧ s.repliedAt t p reply

/-- R130, R134, R135, R142: SETTINGS_WITHDRAW by the proposer removes the pending proposal and tells the other end, its other
forms are refused in order, and the agreement timer's expiry removes it and tells the proposer; the settings stand. -/
def Obligations.ProposalWithdrawnOrExpired : Prop :=
  (∀ (s : State) (p : PortId) (segment : BitVec 8), s.takes p → (∀ k : SegId, segment.toNat = k.num → s.n ≤ k.num) →
      exec (.settingsWithdraw p segment) s = .next (s.answered p 0x32 .outOfRange .none)) ∧
  ∀ (s : State) (p : PortId) (segment : BitVec 8) (k : SegId), segment.toNat = k.num →
    (s.takes p → k.num < s.n → p ≠ k.upStation → p ≠ k.downStation →
      exec (.settingsWithdraw p segment) s = .next (s.answered p 0x32 .notParty .none)) ∧
    (s.takes p → k.num < s.n → p = k.upStation ∨ p = k.downStation → (s.segment k).proposal = none →
      exec (.settingsWithdraw p segment) s = .next (s.answered p 0x32 .wrongState .none)) ∧
    (∀ q, s.takes p → k.num < s.n → p = k.upStation ∨ p = k.downStation → (s.segment k).proposal = some q →
      q.proposer ≠ p → exec (.settingsWithdraw p segment) s = .next (s.answered p 0x32 .notParty .none)) ∧
    (∀ q, s.takes p → k.num < s.n → p = k.upStation ∨ p = k.downStation → (s.segment k).proposal = some q →
      q.proposer = p → ∀ other : StationId, other.val = (if p.val = k.num then k.num - 1 else k.num) →
      ∃ t, exec (.settingsWithdraw p segment) s = .next t ∧
        t.segment k = { s.segment k with proposal := none } ∧ (∀ i, i ≠ k → t.segment i = s.segment i) ∧
        s.told t other (.settings k .withdrawn) ∧
        (∀ x, x ≠ p → x ≠ other → t.port x = s.port x) ∧
        s.sameStations t ∧ s.sameSpans t ∧ s.sameStore t ∧ s.sameWatches t ∧ s.sameSetUp t ∧ s.sameLinksBut t p ∧
        s.repliedAt t p ⟨0x32, .done, .none⟩) ∧
    (∀ q, (s.segment k).proposal = some q → reached s.lineTime q.expiry = true →
      ∃ t, exec (.agreementExpiry k) s = .next t ∧
        t.segment k = { s.segment k with proposal := none } ∧ (∀ i, i ≠ k → t.segment i = s.segment i) ∧
        s.told t q.proposer (.settings k .expired) ∧ (∀ x, x ≠ q.proposer → t.port x = s.port x) ∧
        s.sameStations t ∧ s.sameSpans t ∧ s.sameStore t ∧ s.sameWatches t ∧ s.sameSetUp t ∧ s.sameLinks t)

/-- R141: SETTINGS_READ answers with the segment's settings, derived values, containing span and pending proposal, or
OUT_OF_RANGE for a number that is not 1 to N-1; it changes nothing. -/
def Obligations.SettingsReadReports : Prop :=
  ∀ (s : State) (p : PortId) (segment : BitVec 8), s.takes p →
    ((∀ k : SegId, segment.toNat = k.num → s.n ≤ k.num) →
      exec (.settingsRead p segment) s = .next (s.answered p 0x33 .outOfRange .none)) ∧
    ∀ (k j : SegId) (l : SpanLine), segment.toNat = k.num → k.num < s.n → s.topologyHolds → (s.span j).line = some l →
      l.upstream.val < k.num → k.num ≤ j.num →
      exec (.settingsRead p segment) s = .next (s.answered p 0x33 .done
        (.segment k (s.segment k).settings (s.segment k).area (s.segment k).vSeg (some j) (s.segment k).proposal))

/-! Watch counters (R143 to R162). -/

/-- R144 to R149: WATCH_CLAIM gives the requester the lowest-numbered FREE counter in the claim configuration, or answers
NONE_FREE; WATCH_SET and WATCH_RELEASE act on a counter of the requester's own and refuse an index above 7, a FREE counter
and another's, in that order; WATCH_READ reports any counter. R186: the codes of source, filter and mode. -/
def Obligations.WatchClaimSetReleaseRead : Prop :=
  (∀ b : Byte, watchSourceOf b = [.updateDeficit, .updateExcess, .occupancy, .updates, .shortfall, .exitAge, .exitSolids,
      .inflowVelocity, .reclaims, .resolves][b.toNat]? ∧
    watchFilterOf b = [none, some .one, some .two, some .three][b.toNat]? ∧
    watchModeOf b = [.add, .atLeast, .below, .onsets][b.toNat]?) ∧
  (∀ (s : State) (p : PortId), s.takes p →
      (∀ i, (s.watch i).owner = none → (∀ k, k < i → (s.watch k).owner ≠ none) →
        exec (.watchClaim p) s =
          .next ((s.setWatch i ⟨some p, .updates, none, 0xF#4, 0xF#4, .add, 0, 0, false, false, false, false, false⟩).answered
            p 0x40 .done (.index i))) ∧
      ((∀ i, (s.watch i).owner ≠ none) → exec (.watchClaim p) s = .next (s.answered p 0x40 .noneFree .none))) ∧
  (∀ (s : State) (p : PortId) (index : BitVec 8) (r : WatchWire), s.takes p →
      (8 ≤ index.toNat → exec (.watchSet p index r) s = .next (s.answered p 0x41 .outOfRange .none) ∧
        exec (.watchRelease p index) s = .next (s.answered p 0x43 .outOfRange .none) ∧
        exec (.watchRead p index) s = .next (s.answered p 0x42 .outOfRange .none)) ∧
      ∀ i : WatchId, index.toNat = i.val →
        exec (.watchRead p index) s = .next (s.answered p 0x42 .done (.watch i (s.watch i))) ∧
        ((s.watch i).owner = none → exec (.watchSet p index r) s = .next (s.answered p 0x41 .wrongState .none) ∧
          exec (.watchRelease p index) s = .next (s.answered p 0x43 .wrongState .none)) ∧
        (∀ q, (s.watch i).owner = some q → q ≠ p →
          exec (.watchSet p index r) s = .next (s.answered p 0x41 .notOwner .none) ∧
          exec (.watchRelease p index) s = .next (s.answered p 0x43 .notOwner .none)) ∧
        ((s.watch i).owner = some p →
          exec (.watchRelease p index) s = .next ((s.setWatch i
            ⟨none, .updates, none, 0xF#4, 0xF#4, .add, 0, 0, false, false, false, false, false⟩).answered p 0x43 .done .none) ∧
          (10 ≤ r.source.toNat ∨ 4 ≤ r.filter.toNat ∨ 4 ≤ r.mode.toNat →
            exec (.watchSet p index r) s = .next (s.answered p 0x41 .outOfRange .none)) ∧
          ∀ source filter mode, watchSourceOf r.source = some source → watchFilterOf r.filter = some filter →
            watchModeOf r.mode = some mode →
            exec (.watchSet p index r) s = .next ((s.setWatch i ⟨some p, source, filter, r.masks.extractLsb' 0 4,
              r.masks.extractLsb' 4 4, mode, r.threshold.toInt, r.preload.toInt, false, r.options.getLsbD 0,
              r.options.getLsbD 1, (s.watch i).frozen, false⟩).answered p 0x41 .done .none)))

/-- R150, R151: WATCH_FREEZE sets and WATCH_THAW clears the frozen flag of every counter the requester owns, and of no other,
and answers with how many it owns. -/
def Obligations.WatchFreezeAndThaw : Prop :=
  ∀ (s : State) (p : PortId) (c : Instr) (kind : Byte) (flag : Bool), s.takes p →
    (c = .watchFreeze p ∧ kind = 0x44 ∧ flag = true) ∨ (c = .watchThaw p ∧ kind = 0x45 ∧ flag = false) →
    ∃ t, exec c s = .next t ∧
      (∀ i, t.watch i = if (s.watch i).owner = some p then { s.watch i with frozen := flag } else s.watch i) ∧
      s.sameSetUp t ∧ s.sameStations t ∧ s.sameSegments t ∧ s.sameSpans t ∧ s.sameStore t ∧
      (∀ q, q ≠ p → t.port q = s.port q) ∧
      t.port p = { s.port p with
        rx := .hunt
        replies := (s.port p).replies ++ [⟨kind, .done,
          .owned (Finset.univ.filter (fun i : WatchId => (s.watch i).owner = some p)).card⟩] }

/-- R153 to R157: a sample moves exactly the counters that take it, each by its mode with the wrap of R157, where no counter
has freeze-on-overflow set. -/
def Obligations.SampleMovesTakingCounters : Prop :=
  ∀ (s : State) (x : Sample), (∀ i, (s.watch i).freeze = false) → ∀ i (w w' : Watch), w = s.watch i →
    w' = (s.offer x).watch i →
    if w.owner ≠ none ∧ w.frozen = false ∧ w.source = x.source ∧
        (w.filter = none ∨ x.span = none ∨ w.filter = x.span) ∧
        (∀ st, x.origin = some st → w.origins.getLsbD st.val = true) ∧
        (∀ b, x.bank = some b → w.banks.getLsbD b.val = true) then
      ∃ e : Int, (w'.value - e) % 2 ^ 48 = 0 ∧ -2 ^ 47 ≤ w'.value ∧ w'.value < 2 ^ 47 ∧
        (w.mode = .add → e = w.value + x.value) ∧
        (w.mode = .atLeast → e = if w.threshold ≤ x.value then w.value + 1 else w.value) ∧
        (w.mode = .below → e = if x.value < w.threshold then w.value + 1 else w.value) ∧
        (w.mode = .onsets → e = if w.threshold ≤ x.value ∧ w.lastCompare = false then w.value + 1 else w.value) ∧
        w' = { w with
          value := w'.value
          overflow := w.overflow || decide (e < -2 ^ 47 ∨ 2 ^ 47 ≤ e)
          lastCompare := if w.mode = .onsets then decide (w.threshold ≤ x.value) else w.lastCompare }
    else w' = w

/-- R154, R158, R159: a sample is offered to the counters in index order; one that does not take it stands, and one that takes
it without overflow moves alone. An overflow of a counter with notify-on-overflow raises a WATCH notice with the wrapped
value to its owner, and one with freeze-on-overflow freezes every counter of its owner and no other. -/
def Obligations.OverflowNotifiesAndFreezes : Prop :=
  (∀ (s : State) (x : Sample), s.offer x = ([0, 1, 2, 3, 4, 5, 6, 7] : List WatchId).foldl (fun t i => t.offerTo x i) s) ∧
  (∀ (s : State) (x : Sample) (i : WatchId),
    ((s.watch i).takes x = false → s.offerTo x i = s) ∧
    ((s.watch i).takes x = true → overS48 ((s.watch i).moved x.value) = false →
      s.offerTo x i = s.setWatch i ((s.watch i).take x.value))) ∧
  ∀ (s : State) (x : Sample) (i : WatchId) (p : PortId), (s.watch i).owner = some p → (s.watch i).takes x = true →
    overS48 ((s.watch i).moved x.value) = true →
    ((s.watch i).notify = true → s.told (s.offerTo x i) p (.watch i ((s.offerTo x i).watch i).value)) ∧
    ((s.watch i).notify = false → (s.offerTo x i).ports = s.ports) ∧
    ((s.offerTo x i).watch i).overflow = true ∧ ((s.offerTo x i).watch i).value = wrapS48 ((s.watch i).moved x.value) ∧
    ((s.offerTo x i).watch i).frozen = (s.watch i).freeze ∧
    ∀ k, k ≠ i → (s.offerTo x i).watch k =
      if (s.watch i).freeze = true ∧ (s.watch k).owner = some p then { s.watch k with frozen := true } else s.watch k

/-! Ports and notices (R163 to R179). -/

/-- R167, R169, R170: a frame that completes while the reply buffer holds 4 replies is discarded; a request other than STATUS
is answered UNCONFIGURED while the part is, and NO_STATION at an unused port, and changes nothing. -/
def Obligations.RequestsAreScreened : Prop :=
  ∀ (s : State) (p : PortId) (r : Request), (s.port p).rx.listening = true →
    ((s.port p).replies.length = 4 → exec (requestRow p r) s = .next (s.setPort p { s.port p with rx := .hunt })) ∧
    (s.hears p → r ≠ .status →
      (s.config = .unconfigured → exec (requestRow p r) s = .next (s.answered p r.kind .unconfigured .none)) ∧
      (s.config = .configured → s.isConfigured p = false →
        exec (requestRow p r) s = .next (s.answered p r.kind .noStation .none)))

/-- R173: STATUS is answered at every hearing port, used or not, with the items of the part as they stand; it changes
nothing. -/
def Obligations.StatusReports : Prop :=
  ∀ (s : State) (p : PortId), s.hears p →
    ∃ sts : Quad StationStatus, exec (.status p) s = .next (s.answered p 0x01 .done
        (.status s.config s.lineTime s.n sts s.free.length
          ⟨(s.span .one).line.isSome, (s.span .two).line.isSome, (s.span .three).line.isSome⟩)) ∧
      ∀ st, (sts.get st).service = (s.station st).service ∧ (sts.get st).depth = (s.station st).queue.length ∧
        ((sts.get st).head = .empty ↔ (s.station st).queue = []) ∧
        ((sts.get st).head = .awaiting ↔ ∃ r c, (s.station st).queue.head? = some r ∧ r.stage = .awaiting c)

/-- R175 to R177, R179: NOTICE_GET removes and returns the oldest URGENT notice, else the oldest ROUTINE one, with the number
left; an empty queue is answered EMPTY; the attention line is high exactly when none is left. -/
def Obligations.NoticeGetTakesOldest : Prop :=
  ∀ (s : State) (p : PortId) (x : Notice) (xs : List Notice), s.takes p →
    ((s.port p).urgent = x :: xs → exec (.noticeGet p) s = .next (s.setPort p { s.port p with
        rx := .hunt
        urgent := xs
        attn := if xs = [] ∧ (s.port p).routine = [] then .high else .low
        replies := (s.port p).replies ++ [⟨0x50, .done, .notice x true (xs.length + (s.port p).routine.length)⟩] })) ∧
    ((s.port p).urgent = [] → (s.port p).routine = x :: xs → exec (.noticeGet p) s = .next (s.setPort p { s.port p with
        rx := .hunt
        routine := xs
        attn := if xs = [] then .high else .low
        replies := (s.port p).replies ++ [⟨0x50, .done, .notice x false xs.length⟩] })) ∧
    ((s.port p).urgent = [] → (s.port p).routine = [] →
      exec (.noticeGet p) s = .next (s.answered p 0x50 .empty .none))

/-- R174 to R176, R179: a notice raised to a port that holds none of its key joins the tail of its part; one whose key is held
is updated in place, keeping its line time and, for VERDICT, its "from", and moves to the tail of the URGENT part when a
ROUTINE one is raised URGENT; the line is then low. For a queue without two notices of one key. -/
def Obligations.NoticeRaisedOrUpdated : Prop :=
  ∀ (p q : Port) (body : NoticeBody) (urgent : Bool) (now : LineTime), p.keys.Nodup → q = p.raise body urgent now →
    q.attn = .low ∧ q.linkOf = p.linkOf ∧ q.keys.Nodup ∧
    (body.key ∉ p.keys → q.urgent = p.urgent ++ (if urgent then [⟨body, now⟩] else []) ∧
      q.routine = p.routine ++ (if urgent then [] else [⟨body, now⟩])) ∧
    (∀ (x : Notice) (before after : List Notice) (y : Notice), x.key = body.key →
      y.raisedAt = x.raisedAt →
      y.body = (match x.body, body with
        | .verdict _ b _, .verdict j _ a => .verdict j b a
        | _, _ => body) →
      (p.urgent = before ++ x :: after → q.urgent = before ++ y :: after ∧ q.routine = p.routine) ∧
      (p.routine = before ++ x :: after → urgent = false →
        q.routine = before ++ y :: after ∧ q.urgent = p.urgent) ∧
      (p.routine = before ++ x :: after → urgent = true →
        q.routine = before ++ after ∧ q.urgent = p.urgent ++ [y]))

/-- R43, R171, R168: a break restarts a port and drops its replies, its notices and its station's readings; the return to mark
lets it hunt; and a reply sent whole leaves the front of the buffer. Nothing else changes. -/
def Obligations.PortRestartAndReplySent : Prop :=
  ∀ (s : State) (p : PortId),
    (s.config ≠ .loading → (s.port p).rx ≠ .awaitMark → ∃ t, exec (.portRestart p) s = .next t ∧
      t.port p = { s.port p with rx := .awaitMark, replies := [], urgent := [], routine := [], attn := .high } ∧
      t.station p = { s.station p with queue := [], resolve := none } ∧
      (∀ q, q ≠ p → t.port q = s.port q) ∧ s.sameStationsBut t p ∧ s.sameSetUp t ∧ s.sameSegments t ∧ s.sameSpans t ∧
      s.sameStore t ∧ s.sameWatches t) ∧
    ((s.port p).rx = .awaitMark → exec (.returnToMark p) s = .next (s.setPort p { s.port p with rx := .hunt })) ∧
    ∀ x xs, (s.port p).replies = x :: xs → exec (.replySent p) s = .next (s.setPort p { s.port p with replies := xs })

/-- R164 to R167: a gap, a framing error, a frame whose check does not match and a frame that finds the buffer full leave the
receiver in HUNT and change nothing else; a receiver that receives nothing is not moved; a frame of no request kind is
answered UNKNOWN_KIND; a byte moves a receiver through HUNT, LENGTH, BODY and CHECK, and while no frame completes, only the
receiver of its port changes. R167, R187: the bytes of a frame of a known kind and a length that the kind does not allow are
answered MALFORMED, and those of a frame of no request kind UNKNOWN_KIND, with nothing else changed. That a row of the table
stands for a frame's completion, and that MALFORMED comes through bytes alone, is the model's reading (log entry 3). -/
def Obligations.ReceiverMoves : Prop :=
  (∀ (s : State) (p : PortId) (kind : Byte) (payload : List Byte), (s.port p).rx = .hunt → (s.port p).replies.length < 4 →
      payload.length ≤ 240 →
      (isRequestKind kind = true → payloadLength kind ≠ some payload.length →
        execAll ((frameOf kind payload).map (fun b => Instr.byteReceived p b)) s =
          some (s.answered p kind .malformed .none)) ∧
      (isRequestKind kind = false →
        execAll ((frameOf kind payload).map (fun b => Instr.byteReceived p b)) s =
          some (s.answered p kind .unknownKind .none))) ∧
  (∀ (s : State) (p : PortId) (kind : Byte),
      ((s.port p).rx.listening = true → ∀ t, t = s.setPort p { s.port p with rx := .hunt } →
        exec (.frameGap p) s = .next t ∧ exec (.framingError p) s = .next t ∧ exec (.frameDiscard p) s = .next t ∧
        ((s.port p).replies.length = 4 → exec (.frameUnanswered p) s = .next t)) ∧
      ((s.port p).rx.listening = false →
        exec (.frameGap p) s = .next s ∧ exec (.framingError p) s = .next s ∧ exec (.frameDiscard p) s = .next s ∧
        exec (.frameUnanswered p) s = .next s ∧ exec (.unknownKind p kind) s = .next s ∧
        (∀ b, exec (.byteReceived p b) s = .next s) ∧ ∀ r, exec (requestRow p r) s = .next s) ∧
      (s.hears p → isRequestKind kind = false →
        exec (.unknownKind p kind) s = .next (s.answered p kind .unknownKind .none))) ∧
  (∀ (s : State) (p : PortId) (b : Byte) (rx : Receiver),
      ((s.port p).rx = .hunt → rx = (if b = 0xC5 then .length else .hunt) →
        exec (.byteReceived p b) s = .next (s.setPort p { s.port p with rx := rx })) ∧
      ((s.port p).rx = .length →
        rx = (if 1 ≤ b.toNat ∧ b.toNat ≤ 241 then .body b.toNat [] (crc16 [b]) else .hunt) →
        exec (.byteReceived p b) s = .next (s.setPort p { s.port p with rx := rx })) ∧
      (∀ left data check, (s.port p).rx = .body left data check →
        rx = (if left ≤ 1 then .check (data ++ [b]) (crc16Byte check b) none
          else .body (left - 1) (data ++ [b]) (crc16Byte check b)) →
        exec (.byteReceived p b) s = .next (s.setPort p { s.port p with rx := rx })) ∧
      (∀ data check, (s.port p).rx = .check data check none → rx = .check data check (some b) →
        exec (.byteReceived p b) s = .next (s.setPort p { s.port p with rx := rx })) ∧
      ∀ data check low, (s.port p).rx = .check data check (some low) → rx = .hunt → b ++ low ≠ check →
        exec (.byteReceived p b) s = .next (s.setPort p { s.port p with rx := rx }))

/-! Frames (R164, R166, R186 to R189). -/

/-- R164, R186, R187: the kind of every request, its payload field by field and its frame; every request is read back from
its kind and payload, its payload has its kind's length, and no other byte is a request kind. -/
def Obligations.PayloadsAreReadBack : Prop :=
  (∀ r : Request, payloadLength r.kind = some r.payload.length ∧ parseRequest r.kind r.payload = some r) ∧
  (∀ kind : Byte, isRequestKind kind = true ↔ ∃ r : Request, r.kind = kind) ∧
  (∀ r : Request, laidOut (requestFields r) r.payload ∧
    laidOut (([(1, 0xC5), (1, r.payload.length + 1), (1, r.kind.toNat)] : List Field) ++ requestFields r ++
      ([(2, (crc16 (BitVec.ofNat 8 (r.payload.length + 1) :: r.kind :: r.payload)).toNat)] : List Field)) r.frame) ∧
  ∀ r : Request, r.kind.toNat =
    match r with
    | .status => 0x01
    | .stationIn => 0x02
    | .stationOut => 0x03
    | .reading _ _ _ _ _ => 0x10
    | .resolveAnswer _ _ => 0x11
    | .bankWrite _ _ => 0x18
    | .bankSelect _ => 0x19
    | .bankRead _ _ => 0x1A
    | .spanOpen _ _ => 0x20
    | .spanClose _ => 0x21
    | .spanRead _ => 0x22
    | .parcelList _ _ _ => 0x23
    | .verdictClear _ => 0x24
    | .settingsPropose _ _ => 0x30
    | .settingsAgree _ _ => 0x31
    | .settingsWithdraw _ => 0x32
    | .settingsRead _ => 0x33
    | .watchClaim => 0x40
    | .watchSet _ _ => 0x41
    | .watchRead _ => 0x42
    | .watchRelease _ => 0x43
    | .watchFreeze => 0x44
    | .watchThaw => 0x45
    | .noticeGet => 0x50

/-- R164, R166, R167: the bytes of a request's frame, received one by one from HUNT, do what the completion of its frame does:
what the request's row of the opcode table does. That a row is the completion of its frame is the model's reading (log
entries 3 and 4). -/
def Obligations.FrameBytesAreTheRequest : Prop :=
  ∀ (s t : State) (p : PortId) (r : Request), (s.port p).rx = .hunt → exec (requestRow p r) s = .next t →
    execAll (r.frame.map (fun b => Instr.byteReceived p b)) s = some t

/-- R166, R168, R186, R188, R189: a reply's frame is SYNC, LEN, the request's kind plus 0x80, the result code, its payload
and its check, low byte first, with the result codes written out and the check taken bit by bit, most significant first; what
follows the result code is, field by field, what the tables of R188 and R189 say, with every code of R186, and has the length
of the reply table, of a notice 8 and its kind's. -/
def Obligations.ReplyFramesHaveTheirLayout : Prop :=
  (∀ bytes : List Byte, crc16 bytes =
    (bytes.flatMap (fun b => (List.range 8).map (fun i => b.getLsbD (7 - i)))).foldl
      (fun (c : BitVec 16) bit => if c.msb = bit then c <<< 1 else (c <<< 1) ^^^ 0x1021#16) 0xFFFF#16) ∧
  (∀ (bytes : List Byte) (b : Byte), crc16 (bytes ++ [b]) = crc16Byte (crc16 bytes) b) ∧
  (∀ x : Result, (x.code.toNat : Int) = codeIn [.done, .full, .outOfService, .notParty, .notOwner, .noneFree, .late,
    .conflict, .mismatch, .endsNotReady, .wrongState, .outOfRange, .malformed, .unknownKind, .unconfigured, .notLatched,
    .noStation, .empty, .noSpan] x) ∧
  (∀ body : ReplyBody, laidOut (replyFields body) body.bytes) ∧
  (∀ r : Reply, ∃ lo hi : Byte,
    r.frame = [0xC5, BitVec.ofNat 8 (r.body.bytes.length + 2), r.kind + 0x80, r.result.code] ++ r.body.bytes ++ [lo, hi] ∧
      hi ++ lo = crc16 ([BitVec.ofNat 8 (r.body.bytes.length + 2), r.kind + 0x80, r.result.code] ++ r.body.bytes)) ∧
    ∀ body : ReplyBody, body.bytes.length =
      match body with
      | .none => 0
      | .status _ _ _ _ _ _ => 24
      | .tag _ | .outcome _ | .index _ | .owned _ => 1
      | .bank _ _ _ _ => 13
      | .span _ => 119
      | .parcels _ _ _ _ ps => 10 + 18 * ps.length
      | .segment _ _ _ _ _ _ => 60
      | .watch _ _ => 19
      | .notice x _ _ => 8 + match x.body with
        | .resolve _ _ _ _ _ _ => 9
        | .verdict _ _ _ | .span _ _ _ => 3
        | .settings _ _ | .station _ _ => 2
        | .watch _ _ => 7

/-! Invariants that every step keeps. -/

/-- R53, with R9 to R12 and R128: from every state whose pool is whole, each record on the free list or in exactly one queue,
and whose parcels hold at least 1 litre each, every step leaves it so. -/
def Obligations.StepKeepsPoolWhole : Prop :=
  ∀ s t : State, s.storeHolds → step s = .next t → t.storeHolds

/-- R83, with R10 to R12 and R79 to R88: every step keeps the balance identity of every span that is not CLOSED and whose
saturation mark is clear. -/
def Obligations.StepKeepsBalanceIdentity : Prop :=
  ∀ s t : State, s.balanceHolds → step s = .next t → t.balanceHolds

/-- R76, R79, R96, R113, R123: every step keeps the form of every span record: LEAK exactly with the latch, the window and its
sums, the counters and totals in their ranges, from every state whose topology, geometry and banks are in form (R9, R10,
R27), which the other invariants keep. -/
def Obligations.StepKeepsSpanRecords : Prop :=
  ∀ s t : State, s.topologyHolds → s.geometryHolds → s.banksHold → s.latchHolds ∧ s.windowsHold ∧ s.rangesHold →
    step s = .next t → t.latchHolds ∧ t.windowsHold ∧ t.rangesHold

/-- R168, R174, R179: every step keeps every port's notice queue free of two notices with one key, its attention line low
exactly while it holds one, and its reply buffer at no more than 4; and R180, R181, R184: SCS low with the read command on SDO
exactly while LOADING. -/
def Obligations.StepKeepsPorts : Prop :=
  ∀ s t : State, s.noticesHold ∧ s.buffersHold ∧ s.serialHolds → step s = .next t →
    t.noticesHold ∧ t.buffersHold ∧ t.serialHolds

/-- R23, R24, R27, R39, R169: every step keeps every reading queue in its form, every bank of a configured station valid, and
unused ports untouched. -/
def Obligations.StepKeepsStations : Prop :=
  ∀ s t : State, s.readingsHold ∧ s.banksHold ∧ s.unusedHolds → step s = .next t →
    t.readingsHold ∧ t.banksHold ∧ t.unusedHolds

/-- R180: every one of those invariants holds of the state after reset. -/
def Obligations.ResetMeetsInvariants : Prop :=
  State.reset.storeHolds ∧ State.reset.balanceHolds ∧ State.reset.latchHolds ∧ State.reset.windowsHold ∧
    State.reset.rangesHold ∧ State.reset.noticesHold ∧ State.reset.buffersHold ∧ State.reset.serialHolds ∧
    State.reset.readingsHold ∧ State.reset.banksHold ∧ State.reset.unusedHolds
end

