-- ==== Sys2Proof/Laws/State.lean ====
section
/-! SUPPORT. Reads after updates: one lemma per field or record per update of the state, so that no later proof unfolds a
record update. -/

namespace Sys2Proof.Machine

/-! Quad: an entry after an update. -/

@[simp] theorem Quad.get_set_same {α : Type} (q : Quad α) (i : Fin 4) (a : α) : (q.set i a).get i = a := by
  fin_cases i <;> rfl

@[simp] theorem Quad.get_set_ne {α : Type} (q : Quad α) {i k : Fin 4} (a : α) (h : k ≠ i) : (q.set i a).get k = q.get k := by
  fin_cases i <;> fin_cases k <;> first | rfl | exact absurd rfl h

@[simp] theorem Quad.get_fill {α : Type} (i : Fin 4) (a : α) : (Quad.fill a).get i = a := by
  fin_cases i <;> rfl

@[simp] theorem Quad.set_set {α : Type} (q : Quad α) (i : Fin 4) (a b : α) : (q.set i a).set i b = q.set i b := by
  fin_cases i <;> rfl

@[simp] theorem Quad.set_get {α : Type} (q : Quad α) (i : Fin 4) : q.set i (q.get i) = q := by
  fin_cases i <;> rfl

theorem Quad.ext_get {α : Type} {q r : Quad α} (h : ∀ i, q.get i = r.get i) : q = r := by
  cases q
  cases r
  simp only [Quad.mk.injEq]
  exact ⟨h 0, h 1, h 2, h 3⟩

/-! Octet: an entry after an update. -/

@[simp] theorem Octet.get_set_same {α : Type} (q : Octet α) (i : Fin 8) (a : α) : (q.set i a).get i = a := by
  fin_cases i <;> rfl

@[simp] theorem Octet.get_set_ne {α : Type} (q : Octet α) {i k : Fin 8} (a : α) (h : k ≠ i) : (q.set i a).get k = q.get k := by
  fin_cases i <;> fin_cases k <;> first | rfl | exact absurd rfl h

@[simp] theorem Octet.get_fill {α : Type} (i : Fin 8) (a : α) : (Octet.fill a).get i = a := by
  fin_cases i <;> rfl

@[simp] theorem Octet.set_set {α : Type} (q : Octet α) (i : Fin 8) (a b : α) : (q.set i a).set i b = q.set i b := by
  fin_cases i <;> rfl

@[simp] theorem Octet.set_get {α : Type} (q : Octet α) (i : Fin 8) : q.set i (q.get i) = q := by
  fin_cases i <;> rfl

theorem Octet.ext_get {α : Type} {q r : Octet α} (h : ∀ i, q.get i = r.get i) : q = r := by
  cases q
  cases r
  simp only [Octet.mk.injEq]
  exact ⟨h 0, h 1, h 2, h 3, h 4, h 5, h 6, h 7⟩

/-! Trio: an entry after an update. -/

@[simp] theorem Trio.get_set_same {α : Type} (q : Trio α) (i : SegId) (a : α) : (q.set i a).get i = a := by
  cases i <;> rfl

@[simp] theorem Trio.get_set_ne {α : Type} (q : Trio α) {i k : SegId} (a : α) (h : k ≠ i) : (q.set i a).get k = q.get k := by
  cases i <;> cases k <;> first | rfl | exact absurd rfl h

@[simp] theorem Trio.get_fill {α : Type} (i : SegId) (a : α) : (Trio.fill a).get i = a := by
  cases i <;> rfl

@[simp] theorem Trio.set_set {α : Type} (q : Trio α) (i : SegId) (a b : α) : (q.set i a).set i b = q.set i b := by
  cases i <;> rfl

@[simp] theorem Trio.set_get {α : Type} (q : Trio α) (i : SegId) : q.set i (q.get i) = q := by
  cases i <;> rfl

theorem Trio.ext_get {α : Type} {q r : Trio α} (h : ∀ i, q.get i = r.get i) : q = r := by
  cases q
  cases r
  simp only [Trio.mk.injEq]
  exact ⟨h .one, h .two, h .three⟩

@[simp] theorem Octet.get_map (f : Watch → Watch) (o : Octet Watch) (i : Fin 8) : (o.map f).get i = f (o.get i) := by
  fin_cases i <;> rfl

variable (s : State)

/-! After `State.setStation`. -/

@[simp] theorem setStation_config (st : StationId) (x : Station) : (s.setStation st x).config = s.config := rfl
@[simp] theorem setStation_n (st : StationId) (x : Station) : (s.setStation st x).n = s.n := rfl
@[simp] theorem setStation_lineTime (st : StationId) (x : Station) : (s.setStation st x).lineTime = s.lineTime := rfl
@[simp] theorem setStation_tStale (st : StationId) (x : Station) : (s.setStation st x).tStale = s.tStale := rfl
@[simp] theorem setStation_tRes (st : StationId) (x : Station) : (s.setStation st x).tRes = s.tRes := rfl
@[simp] theorem setStation_tAgree (st : StationId) (x : Station) : (s.setStation st x).tAgree = s.tAgree := rfl
@[simp] theorem setStation_tTrip (st : StationId) (x : Station) : (s.setStation st x).tTrip = s.tTrip := rfl
@[simp] theorem setStation_scs (st : StationId) (x : Station) : (s.setStation st x).scs = s.scs := rfl
@[simp] theorem setStation_sdo (st : StationId) (x : Station) : (s.setStation st x).sdo = s.sdo := rfl
@[simp] theorem setStation_lastGranted (st : StationId) (x : Station) : (s.setStation st x).lastGranted = s.lastGranted := rfl
@[simp] theorem setStation_free (st : StationId) (x : Station) : (s.setStation st x).free = s.free := rfl
@[simp] theorem setStation_queues (st : StationId) (x : Station) : (s.setStation st x).queues = s.queues := rfl
@[simp] theorem setStation_spans (st : StationId) (x : Station) : (s.setStation st x).spans = s.spans := rfl
@[simp] theorem setStation_segments (st : StationId) (x : Station) : (s.setStation st x).segments = s.segments := rfl
@[simp] theorem setStation_watches (st : StationId) (x : Station) : (s.setStation st x).watches = s.watches := rfl
@[simp] theorem setStation_ports (st : StationId) (x : Station) : (s.setStation st x).ports = s.ports := rfl
@[simp] theorem setStation_pending (st : StationId) (x : Station) : (s.setStation st x).pending = s.pending := rfl
@[simp] theorem setStation_station_same (st : StationId) (x : Station) : (s.setStation st x).station st = x :=
  Quad.get_set_same _ _ _
@[simp] theorem setStation_station_ne (st : StationId) (x : Station) {st' : StationId} (h : st' ≠ st) : (s.setStation st x).station st' = s.station st' :=
  Quad.get_set_ne _ _ h
@[simp] theorem setStation_setStation (st : StationId) (x : Station) (y : Station) : (s.setStation st x).setStation st y = s.setStation st y := by
  simp [State.setStation]
@[simp] theorem setStation_station (st : StationId) : s.setStation st (s.station st) = s := by
  simp [State.setStation, State.station]
@[simp] theorem setStation_port (st : StationId) (x : Station) (p' : PortId) : (s.setStation st x).port p' = s.port p' := rfl
@[simp] theorem setStation_span (st : StationId) (x : Station) (j' : SpanId) : (s.setStation st x).span j' = s.span j' := rfl
@[simp] theorem setStation_segment (st : StationId) (x : Station) (k' : SegId) : (s.setStation st x).segment k' = s.segment k' := rfl
@[simp] theorem setStation_queue (st : StationId) (x : Station) (j' : SpanId) : (s.setStation st x).queue j' = s.queue j' := rfl
@[simp] theorem setStation_watch (st : StationId) (x : Station) (i' : WatchId) : (s.setStation st x).watch i' = s.watch i' := rfl

/-! After `State.setPort`. -/

@[simp] theorem setPort_config (p : PortId) (x : Port) : (s.setPort p x).config = s.config := rfl
@[simp] theorem setPort_n (p : PortId) (x : Port) : (s.setPort p x).n = s.n := rfl
@[simp] theorem setPort_lineTime (p : PortId) (x : Port) : (s.setPort p x).lineTime = s.lineTime := rfl
@[simp] theorem setPort_tStale (p : PortId) (x : Port) : (s.setPort p x).tStale = s.tStale := rfl
@[simp] theorem setPort_tRes (p : PortId) (x : Port) : (s.setPort p x).tRes = s.tRes := rfl
@[simp] theorem setPort_tAgree (p : PortId) (x : Port) : (s.setPort p x).tAgree = s.tAgree := rfl
@[simp] theorem setPort_tTrip (p : PortId) (x : Port) : (s.setPort p x).tTrip = s.tTrip := rfl
@[simp] theorem setPort_scs (p : PortId) (x : Port) : (s.setPort p x).scs = s.scs := rfl
@[simp] theorem setPort_sdo (p : PortId) (x : Port) : (s.setPort p x).sdo = s.sdo := rfl
@[simp] theorem setPort_stations (p : PortId) (x : Port) : (s.setPort p x).stations = s.stations := rfl
@[simp] theorem setPort_lastGranted (p : PortId) (x : Port) : (s.setPort p x).lastGranted = s.lastGranted := rfl
@[simp] theorem setPort_free (p : PortId) (x : Port) : (s.setPort p x).free = s.free := rfl
@[simp] theorem setPort_queues (p : PortId) (x : Port) : (s.setPort p x).queues = s.queues := rfl
@[simp] theorem setPort_spans (p : PortId) (x : Port) : (s.setPort p x).spans = s.spans := rfl
@[simp] theorem setPort_segments (p : PortId) (x : Port) : (s.setPort p x).segments = s.segments := rfl
@[simp] theorem setPort_watches (p : PortId) (x : Port) : (s.setPort p x).watches = s.watches := rfl
@[simp] theorem setPort_pending (p : PortId) (x : Port) : (s.setPort p x).pending = s.pending := rfl
@[simp] theorem setPort_station (p : PortId) (x : Port) (st' : StationId) : (s.setPort p x).station st' = s.station st' := rfl
@[simp] theorem setPort_port_same (p : PortId) (x : Port) : (s.setPort p x).port p = x :=
  Quad.get_set_same _ _ _
@[simp] theorem setPort_port_ne (p : PortId) (x : Port) {p' : PortId} (h : p' ≠ p) : (s.setPort p x).port p' = s.port p' :=
  Quad.get_set_ne _ _ h
@[simp] theorem setPort_setPort (p : PortId) (x : Port) (y : Port) : (s.setPort p x).setPort p y = s.setPort p y := by
  simp [State.setPort]
@[simp] theorem setPort_port (p : PortId) : s.setPort p (s.port p) = s := by
  simp [State.setPort, State.port]
@[simp] theorem setPort_span (p : PortId) (x : Port) (j' : SpanId) : (s.setPort p x).span j' = s.span j' := rfl
@[simp] theorem setPort_segment (p : PortId) (x : Port) (k' : SegId) : (s.setPort p x).segment k' = s.segment k' := rfl
@[simp] theorem setPort_queue (p : PortId) (x : Port) (j' : SpanId) : (s.setPort p x).queue j' = s.queue j' := rfl
@[simp] theorem setPort_watch (p : PortId) (x : Port) (i' : WatchId) : (s.setPort p x).watch i' = s.watch i' := rfl

/-! After `State.setSpan`. -/

@[simp] theorem setSpan_config (j : SpanId) (x : Span) : (s.setSpan j x).config = s.config := rfl
@[simp] theorem setSpan_n (j : SpanId) (x : Span) : (s.setSpan j x).n = s.n := rfl
@[simp] theorem setSpan_lineTime (j : SpanId) (x : Span) : (s.setSpan j x).lineTime = s.lineTime := rfl
@[simp] theorem setSpan_tStale (j : SpanId) (x : Span) : (s.setSpan j x).tStale = s.tStale := rfl
@[simp] theorem setSpan_tRes (j : SpanId) (x : Span) : (s.setSpan j x).tRes = s.tRes := rfl
@[simp] theorem setSpan_tAgree (j : SpanId) (x : Span) : (s.setSpan j x).tAgree = s.tAgree := rfl
@[simp] theorem setSpan_tTrip (j : SpanId) (x : Span) : (s.setSpan j x).tTrip = s.tTrip := rfl
@[simp] theorem setSpan_scs (j : SpanId) (x : Span) : (s.setSpan j x).scs = s.scs := rfl
@[simp] theorem setSpan_sdo (j : SpanId) (x : Span) : (s.setSpan j x).sdo = s.sdo := rfl
@[simp] theorem setSpan_stations (j : SpanId) (x : Span) : (s.setSpan j x).stations = s.stations := rfl
@[simp] theorem setSpan_lastGranted (j : SpanId) (x : Span) : (s.setSpan j x).lastGranted = s.lastGranted := rfl
@[simp] theorem setSpan_free (j : SpanId) (x : Span) : (s.setSpan j x).free = s.free := rfl
@[simp] theorem setSpan_queues (j : SpanId) (x : Span) : (s.setSpan j x).queues = s.queues := rfl
@[simp] theorem setSpan_segments (j : SpanId) (x : Span) : (s.setSpan j x).segments = s.segments := rfl
@[simp] theorem setSpan_watches (j : SpanId) (x : Span) : (s.setSpan j x).watches = s.watches := rfl
@[simp] theorem setSpan_ports (j : SpanId) (x : Span) : (s.setSpan j x).ports = s.ports := rfl
@[simp] theorem setSpan_pending (j : SpanId) (x : Span) : (s.setSpan j x).pending = s.pending := rfl
@[simp] theorem setSpan_station (j : SpanId) (x : Span) (st' : StationId) : (s.setSpan j x).station st' = s.station st' := rfl
@[simp] theorem setSpan_port (j : SpanId) (x : Span) (p' : PortId) : (s.setSpan j x).port p' = s.port p' := rfl
@[simp] theorem setSpan_span_same (j : SpanId) (x : Span) : (s.setSpan j x).span j = x :=
  Trio.get_set_same _ _ _
@[simp] theorem setSpan_span_ne (j : SpanId) (x : Span) {j' : SpanId} (h : j' ≠ j) : (s.setSpan j x).span j' = s.span j' :=
  Trio.get_set_ne _ _ h
@[simp] theorem setSpan_setSpan (j : SpanId) (x : Span) (y : Span) : (s.setSpan j x).setSpan j y = s.setSpan j y := by
  simp [State.setSpan]
@[simp] theorem setSpan_span (j : SpanId) : s.setSpan j (s.span j) = s := by
  simp [State.setSpan, State.span]
@[simp] theorem setSpan_segment (j : SpanId) (x : Span) (k' : SegId) : (s.setSpan j x).segment k' = s.segment k' := rfl
@[simp] theorem setSpan_queue (j : SpanId) (x : Span) (j' : SpanId) : (s.setSpan j x).queue j' = s.queue j' := rfl
@[simp] theorem setSpan_watch (j : SpanId) (x : Span) (i' : WatchId) : (s.setSpan j x).watch i' = s.watch i' := rfl

/-! After `State.setSegment`. -/

@[simp] theorem setSegment_config (k : SegId) (x : Segment) : (s.setSegment k x).config = s.config := rfl
@[simp] theorem setSegment_n (k : SegId) (x : Segment) : (s.setSegment k x).n = s.n := rfl
@[simp] theorem setSegment_lineTime (k : SegId) (x : Segment) : (s.setSegment k x).lineTime = s.lineTime := rfl
@[simp] theorem setSegment_tStale (k : SegId) (x : Segment) : (s.setSegment k x).tStale = s.tStale := rfl
@[simp] theorem setSegment_tRes (k : SegId) (x : Segment) : (s.setSegment k x).tRes = s.tRes := rfl
@[simp] theorem setSegment_tAgree (k : SegId) (x : Segment) : (s.setSegment k x).tAgree = s.tAgree := rfl
@[simp] theorem setSegment_tTrip (k : SegId) (x : Segment) : (s.setSegment k x).tTrip = s.tTrip := rfl
@[simp] theorem setSegment_scs (k : SegId) (x : Segment) : (s.setSegment k x).scs = s.scs := rfl
@[simp] theorem setSegment_sdo (k : SegId) (x : Segment) : (s.setSegment k x).sdo = s.sdo := rfl
@[simp] theorem setSegment_stations (k : SegId) (x : Segment) : (s.setSegment k x).stations = s.stations := rfl
@[simp] theorem setSegment_lastGranted (k : SegId) (x : Segment) : (s.setSegment k x).lastGranted = s.lastGranted := rfl
@[simp] theorem setSegment_free (k : SegId) (x : Segment) : (s.setSegment k x).free = s.free := rfl
@[simp] theorem setSegment_queues (k : SegId) (x : Segment) : (s.setSegment k x).queues = s.queues := rfl
@[simp] theorem setSegment_spans (k : SegId) (x : Segment) : (s.setSegment k x).spans = s.spans := rfl
@[simp] theorem setSegment_watches (k : SegId) (x : Segment) : (s.setSegment k x).watches = s.watches := rfl
@[simp] theorem setSegment_ports (k : SegId) (x : Segment) : (s.setSegment k x).ports = s.ports := rfl
@[simp] theorem setSegment_pending (k : SegId) (x : Segment) : (s.setSegment k x).pending = s.pending := rfl
@[simp] theorem setSegment_station (k : SegId) (x : Segment) (st' : StationId) : (s.setSegment k x).station st' = s.station st' := rfl
@[simp] theorem setSegment_port (k : SegId) (x : Segment) (p' : PortId) : (s.setSegment k x).port p' = s.port p' := rfl
@[simp] theorem setSegment_span (k : SegId) (x : Segment) (j' : SpanId) : (s.setSegment k x).span j' = s.span j' := rfl
@[simp] theorem setSegment_segment_same (k : SegId) (x : Segment) : (s.setSegment k x).segment k = x :=
  Trio.get_set_same _ _ _
@[simp] theorem setSegment_segment_ne (k : SegId) (x : Segment) {k' : SegId} (h : k' ≠ k) : (s.setSegment k x).segment k' = s.segment k' :=
  Trio.get_set_ne _ _ h
@[simp] theorem setSegment_setSegment (k : SegId) (x : Segment) (y : Segment) : (s.setSegment k x).setSegment k y = s.setSegment k y := by
  simp [State.setSegment]
@[simp] theorem setSegment_segment (k : SegId) : s.setSegment k (s.segment k) = s := by
  simp [State.setSegment, State.segment]
@[simp] theorem setSegment_queue (k : SegId) (x : Segment) (j' : SpanId) : (s.setSegment k x).queue j' = s.queue j' := rfl
@[simp] theorem setSegment_watch (k : SegId) (x : Segment) (i' : WatchId) : (s.setSegment k x).watch i' = s.watch i' := rfl

/-! After `State.setQueue`. -/

@[simp] theorem setQueue_config (j : SpanId) (x : List Parcel) : (s.setQueue j x).config = s.config := rfl
@[simp] theorem setQueue_n (j : SpanId) (x : List Parcel) : (s.setQueue j x).n = s.n := rfl
@[simp] theorem setQueue_lineTime (j : SpanId) (x : List Parcel) : (s.setQueue j x).lineTime = s.lineTime := rfl
@[simp] theorem setQueue_tStale (j : SpanId) (x : List Parcel) : (s.setQueue j x).tStale = s.tStale := rfl
@[simp] theorem setQueue_tRes (j : SpanId) (x : List Parcel) : (s.setQueue j x).tRes = s.tRes := rfl
@[simp] theorem setQueue_tAgree (j : SpanId) (x : List Parcel) : (s.setQueue j x).tAgree = s.tAgree := rfl
@[simp] theorem setQueue_tTrip (j : SpanId) (x : List Parcel) : (s.setQueue j x).tTrip = s.tTrip := rfl
@[simp] theorem setQueue_scs (j : SpanId) (x : List Parcel) : (s.setQueue j x).scs = s.scs := rfl
@[simp] theorem setQueue_sdo (j : SpanId) (x : List Parcel) : (s.setQueue j x).sdo = s.sdo := rfl
@[simp] theorem setQueue_stations (j : SpanId) (x : List Parcel) : (s.setQueue j x).stations = s.stations := rfl
@[simp] theorem setQueue_lastGranted (j : SpanId) (x : List Parcel) : (s.setQueue j x).lastGranted = s.lastGranted := rfl
@[simp] theorem setQueue_free (j : SpanId) (x : List Parcel) : (s.setQueue j x).free = s.free := rfl
@[simp] theorem setQueue_spans (j : SpanId) (x : List Parcel) : (s.setQueue j x).spans = s.spans := rfl
@[simp] theorem setQueue_segments (j : SpanId) (x : List Parcel) : (s.setQueue j x).segments = s.segments := rfl
@[simp] theorem setQueue_watches (j : SpanId) (x : List Parcel) : (s.setQueue j x).watches = s.watches := rfl
@[simp] theorem setQueue_ports (j : SpanId) (x : List Parcel) : (s.setQueue j x).ports = s.ports := rfl
@[simp] theorem setQueue_pending (j : SpanId) (x : List Parcel) : (s.setQueue j x).pending = s.pending := rfl
@[simp] theorem setQueue_station (j : SpanId) (x : List Parcel) (st' : StationId) : (s.setQueue j x).station st' = s.station st' := rfl
@[simp] theorem setQueue_port (j : SpanId) (x : List Parcel) (p' : PortId) : (s.setQueue j x).port p' = s.port p' := rfl
@[simp] theorem setQueue_span (j : SpanId) (x : List Parcel) (j' : SpanId) : (s.setQueue j x).span j' = s.span j' := rfl
@[simp] theorem setQueue_segment (j : SpanId) (x : List Parcel) (k' : SegId) : (s.setQueue j x).segment k' = s.segment k' := rfl
@[simp] theorem setQueue_queue_same (j : SpanId) (x : List Parcel) : (s.setQueue j x).queue j = x :=
  Trio.get_set_same _ _ _
@[simp] theorem setQueue_queue_ne (j : SpanId) (x : List Parcel) {j' : SpanId} (h : j' ≠ j) : (s.setQueue j x).queue j' = s.queue j' :=
  Trio.get_set_ne _ _ h
@[simp] theorem setQueue_setQueue (j : SpanId) (x : List Parcel) (y : List Parcel) : (s.setQueue j x).setQueue j y = s.setQueue j y := by
  simp [State.setQueue]
@[simp] theorem setQueue_queue (j : SpanId) : s.setQueue j (s.queue j) = s := by
  simp [State.setQueue, State.queue]
@[simp] theorem setQueue_watch (j : SpanId) (x : List Parcel) (i' : WatchId) : (s.setQueue j x).watch i' = s.watch i' := rfl

/-! After `State.setFree`. -/

@[simp] theorem setFree_config (x : List Nat) : (s.setFree x).config = s.config := rfl
@[simp] theorem setFree_n (x : List Nat) : (s.setFree x).n = s.n := rfl
@[simp] theorem setFree_lineTime (x : List Nat) : (s.setFree x).lineTime = s.lineTime := rfl
@[simp] theorem setFree_tStale (x : List Nat) : (s.setFree x).tStale = s.tStale := rfl
@[simp] theorem setFree_tRes (x : List Nat) : (s.setFree x).tRes = s.tRes := rfl
@[simp] theorem setFree_tAgree (x : List Nat) : (s.setFree x).tAgree = s.tAgree := rfl
@[simp] theorem setFree_tTrip (x : List Nat) : (s.setFree x).tTrip = s.tTrip := rfl
@[simp] theorem setFree_scs (x : List Nat) : (s.setFree x).scs = s.scs := rfl
@[simp] theorem setFree_sdo (x : List Nat) : (s.setFree x).sdo = s.sdo := rfl
@[simp] theorem setFree_stations (x : List Nat) : (s.setFree x).stations = s.stations := rfl
@[simp] theorem setFree_lastGranted (x : List Nat) : (s.setFree x).lastGranted = s.lastGranted := rfl
@[simp] theorem setFree_queues (x : List Nat) : (s.setFree x).queues = s.queues := rfl
@[simp] theorem setFree_spans (x : List Nat) : (s.setFree x).spans = s.spans := rfl
@[simp] theorem setFree_segments (x : List Nat) : (s.setFree x).segments = s.segments := rfl
@[simp] theorem setFree_watches (x : List Nat) : (s.setFree x).watches = s.watches := rfl
@[simp] theorem setFree_ports (x : List Nat) : (s.setFree x).ports = s.ports := rfl
@[simp] theorem setFree_pending (x : List Nat) : (s.setFree x).pending = s.pending := rfl
@[simp] theorem setFree_station (x : List Nat) (st' : StationId) : (s.setFree x).station st' = s.station st' := rfl
@[simp] theorem setFree_port (x : List Nat) (p' : PortId) : (s.setFree x).port p' = s.port p' := rfl
@[simp] theorem setFree_span (x : List Nat) (j' : SpanId) : (s.setFree x).span j' = s.span j' := rfl
@[simp] theorem setFree_segment (x : List Nat) (k' : SegId) : (s.setFree x).segment k' = s.segment k' := rfl
@[simp] theorem setFree_queue (x : List Nat) (j' : SpanId) : (s.setFree x).queue j' = s.queue j' := rfl
@[simp] theorem setFree_watch (x : List Nat) (i' : WatchId) : (s.setFree x).watch i' = s.watch i' := rfl
@[simp] theorem setFree_free (x : List Nat) : (s.setFree x).free = x := rfl

/-! After `State.setWatches`. -/

@[simp] theorem setWatches_config (x : Octet Watch) : (s.setWatches x).config = s.config := rfl
@[simp] theorem setWatches_n (x : Octet Watch) : (s.setWatches x).n = s.n := rfl
@[simp] theorem setWatches_lineTime (x : Octet Watch) : (s.setWatches x).lineTime = s.lineTime := rfl
@[simp] theorem setWatches_tStale (x : Octet Watch) : (s.setWatches x).tStale = s.tStale := rfl
@[simp] theorem setWatches_tRes (x : Octet Watch) : (s.setWatches x).tRes = s.tRes := rfl
@[simp] theorem setWatches_tAgree (x : Octet Watch) : (s.setWatches x).tAgree = s.tAgree := rfl
@[simp] theorem setWatches_tTrip (x : Octet Watch) : (s.setWatches x).tTrip = s.tTrip := rfl
@[simp] theorem setWatches_scs (x : Octet Watch) : (s.setWatches x).scs = s.scs := rfl
@[simp] theorem setWatches_sdo (x : Octet Watch) : (s.setWatches x).sdo = s.sdo := rfl
@[simp] theorem setWatches_stations (x : Octet Watch) : (s.setWatches x).stations = s.stations := rfl
@[simp] theorem setWatches_lastGranted (x : Octet Watch) : (s.setWatches x).lastGranted = s.lastGranted := rfl
@[simp] theorem setWatches_free (x : Octet Watch) : (s.setWatches x).free = s.free := rfl
@[simp] theorem setWatches_queues (x : Octet Watch) : (s.setWatches x).queues = s.queues := rfl
@[simp] theorem setWatches_spans (x : Octet Watch) : (s.setWatches x).spans = s.spans := rfl
@[simp] theorem setWatches_segments (x : Octet Watch) : (s.setWatches x).segments = s.segments := rfl
@[simp] theorem setWatches_ports (x : Octet Watch) : (s.setWatches x).ports = s.ports := rfl
@[simp] theorem setWatches_pending (x : Octet Watch) : (s.setWatches x).pending = s.pending := rfl
@[simp] theorem setWatches_station (x : Octet Watch) (st' : StationId) : (s.setWatches x).station st' = s.station st' := rfl
@[simp] theorem setWatches_port (x : Octet Watch) (p' : PortId) : (s.setWatches x).port p' = s.port p' := rfl
@[simp] theorem setWatches_span (x : Octet Watch) (j' : SpanId) : (s.setWatches x).span j' = s.span j' := rfl
@[simp] theorem setWatches_segment (x : Octet Watch) (k' : SegId) : (s.setWatches x).segment k' = s.segment k' := rfl
@[simp] theorem setWatches_queue (x : Octet Watch) (j' : SpanId) : (s.setWatches x).queue j' = s.queue j' := rfl
@[simp] theorem setWatches_watch (x : Octet Watch) (i' : WatchId) : (s.setWatches x).watch i' = x.get i' := rfl
@[simp] theorem setWatches_watches (x : Octet Watch) : (s.setWatches x).watches = x := rfl

/-! After `State.setWatch`. -/

@[simp] theorem setWatch_config (i : WatchId) (x : Watch) : (s.setWatch i x).config = s.config := rfl
@[simp] theorem setWatch_n (i : WatchId) (x : Watch) : (s.setWatch i x).n = s.n := rfl
@[simp] theorem setWatch_lineTime (i : WatchId) (x : Watch) : (s.setWatch i x).lineTime = s.lineTime := rfl
@[simp] theorem setWatch_tStale (i : WatchId) (x : Watch) : (s.setWatch i x).tStale = s.tStale := rfl
@[simp] theorem setWatch_tRes (i : WatchId) (x : Watch) : (s.setWatch i x).tRes = s.tRes := rfl
@[simp] theorem setWatch_tAgree (i : WatchId) (x : Watch) : (s.setWatch i x).tAgree = s.tAgree := rfl
@[simp] theorem setWatch_tTrip (i : WatchId) (x : Watch) : (s.setWatch i x).tTrip = s.tTrip := rfl
@[simp] theorem setWatch_scs (i : WatchId) (x : Watch) : (s.setWatch i x).scs = s.scs := rfl
@[simp] theorem setWatch_sdo (i : WatchId) (x : Watch) : (s.setWatch i x).sdo = s.sdo := rfl
@[simp] theorem setWatch_stations (i : WatchId) (x : Watch) : (s.setWatch i x).stations = s.stations := rfl
@[simp] theorem setWatch_lastGranted (i : WatchId) (x : Watch) : (s.setWatch i x).lastGranted = s.lastGranted := rfl
@[simp] theorem setWatch_free (i : WatchId) (x : Watch) : (s.setWatch i x).free = s.free := rfl
@[simp] theorem setWatch_queues (i : WatchId) (x : Watch) : (s.setWatch i x).queues = s.queues := rfl
@[simp] theorem setWatch_spans (i : WatchId) (x : Watch) : (s.setWatch i x).spans = s.spans := rfl
@[simp] theorem setWatch_segments (i : WatchId) (x : Watch) : (s.setWatch i x).segments = s.segments := rfl
@[simp] theorem setWatch_ports (i : WatchId) (x : Watch) : (s.setWatch i x).ports = s.ports := rfl
@[simp] theorem setWatch_pending (i : WatchId) (x : Watch) : (s.setWatch i x).pending = s.pending := rfl
@[simp] theorem setWatch_station (i : WatchId) (x : Watch) (st' : StationId) : (s.setWatch i x).station st' = s.station st' := rfl
@[simp] theorem setWatch_port (i : WatchId) (x : Watch) (p' : PortId) : (s.setWatch i x).port p' = s.port p' := rfl
@[simp] theorem setWatch_span (i : WatchId) (x : Watch) (j' : SpanId) : (s.setWatch i x).span j' = s.span j' := rfl
@[simp] theorem setWatch_segment (i : WatchId) (x : Watch) (k' : SegId) : (s.setWatch i x).segment k' = s.segment k' := rfl
@[simp] theorem setWatch_queue (i : WatchId) (x : Watch) (j' : SpanId) : (s.setWatch i x).queue j' = s.queue j' := rfl

@[simp] theorem setWatch_watch_same (i : WatchId) (x : Watch) : (s.setWatch i x).watch i = x := Octet.get_set_same _ _ _

@[simp] theorem setWatch_watch_ne (i : WatchId) (x : Watch) {i' : WatchId} (h : i' ≠ i) :
    (s.setWatch i x).watch i' = s.watch i' :=
  Octet.get_set_ne _ _ h

/-! Updates of different records commute. -/

theorem setPort_setStation_comm (p : PortId) (x : Port) (st : StationId) (y : Station) :
    (s.setPort p x).setStation st y = (s.setStation st y).setPort p x := rfl

theorem setPort_setSpan_comm (p : PortId) (x : Port) (j : SpanId) (y : Span) :
    (s.setPort p x).setSpan j y = (s.setSpan j y).setPort p x := rfl

theorem setPort_setSegment_comm (p : PortId) (x : Port) (k : SegId) (y : Segment) :
    (s.setPort p x).setSegment k y = (s.setSegment k y).setPort p x := rfl

theorem setPort_setWatch_comm (p : PortId) (x : Port) (i : WatchId) (y : Watch) :
    (s.setPort p x).setWatch i y = (s.setWatch i y).setPort p x := rfl

theorem setPort_setQueue_comm (p : PortId) (x : Port) (j : SpanId) (y : List Parcel) :
    (s.setPort p x).setQueue j y = (s.setQueue j y).setPort p x := rfl

end Sys2Proof.Machine
end

