-- ==== Sys2Proof/Laws/Notices.lean ====
section
/-! SUPPORT. What the notice operations can do: they change notice queues and attention lines alone, a raised notice is held
afterwards, a notice of another key stays, and no queue comes to hold two notices of one key. -/

namespace Sys2Proof.Machine

/-! One port. -/

@[simp] theorem Port.withNotices_rate (p : Port) (u r : List Notice) : (p.withNotices u r).rate = p.rate := rfl
@[simp] theorem Port.withNotices_rx (p : Port) (u r : List Notice) : (p.withNotices u r).rx = p.rx := rfl
@[simp] theorem Port.withNotices_replies (p : Port) (u r : List Notice) : (p.withNotices u r).replies = p.replies := rfl
@[simp] theorem Port.withNotices_trip (p : Port) (u r : List Notice) : (p.withNotices u r).trip = p.trip := rfl
@[simp] theorem Port.withNotices_urgent (p : Port) (u r : List Notice) : (p.withNotices u r).urgent = u := rfl
@[simp] theorem Port.withNotices_routine (p : Port) (u r : List Notice) : (p.withNotices u r).routine = r := rfl

theorem Port.withNotices_attn (p : Port) (u r : List Notice) :
    (p.withNotices u r).attn = .low ↔ u ++ r ≠ [] := by
  cases u <;> cases r <;> simp [Port.withNotices]

/-- The forms a port can take when a notice is raised to it. -/
theorem Port.raise_cases (p : Port) (body : NoticeBody) (urgent : Bool) (now : LineTime) :
    p.raise body urgent now = p.withNotices (updateHeld body p.urgent) p.routine ∨
    (holdsKey body.key p.routine = true ∧ p.raise body urgent now =
      p.withNotices (p.urgent ++ updateHeld body (p.routine.filter (fun n => n.key == body.key)))
        (dropKey body.key p.routine)) ∨
    p.raise body urgent now = p.withNotices p.urgent (updateHeld body p.routine) ∨
    p.raise body urgent now = p.withNotices (p.urgent ++ [⟨body, now⟩]) p.routine ∨
    p.raise body urgent now = p.withNotices p.urgent (p.routine ++ [⟨body, now⟩]) := by
  unfold Port.raise
  split
  · exact .inl rfl
  · split
    · rename_i h
      split
      · exact .inr (.inl ⟨h, rfl⟩)
      · exact .inr (.inr (.inl rfl))
    · split
      · exact .inr (.inr (.inr (.inl rfl)))
      · exact .inr (.inr (.inr (.inr rfl)))

/-- A raising keeps the port's rate, receiver, replies and trip level. -/
theorem Port.raise_link (p : Port) (body : NoticeBody) (urgent : Bool) (now : LineTime) :
    (p.raise body urgent now).rate = p.rate ∧ (p.raise body urgent now).rx = p.rx ∧
      (p.raise body urgent now).replies = p.replies ∧ (p.raise body urgent now).trip = p.trip := by
  obtain h | ⟨-, h⟩ | h | h | h := p.raise_cases body urgent now <;> rw [h] <;> exact ⟨rfl, rfl, rfl, rfl⟩

/-- A held VERDICT notice is the only one whose body after a coalescing raising is not the raised body. -/
theorem NoticeBody.coalesce_key (held raised : NoticeBody) (h : held.key = raised.key) :
    (held.coalesce raised).key = raised.key := by
  cases held <;> cases raised <;> simp_all [NoticeBody.coalesce, NoticeBody.key]

theorem NoticeBody.coalesce_body (held raised : NoticeBody) (h : ∀ j a b, raised ≠ .verdict j a b) :
    held.coalesce raised = raised := by
  cases raised with
  | verdict j a b => exact absurd rfl (h j a b)
  | _ => cases held <;> rfl

theorem updateHeld_keys (raised : NoticeBody) (part : List Notice) :
    (updateHeld raised part).map Notice.key = part.map Notice.key := by
  simp only [updateHeld, List.map_map]
  refine List.map_congr_left fun n _ => ?_
  simp only [Function.comp]
  split
  · rename_i h
    exact (NoticeBody.coalesce_key n.body raised h).trans h.symm
  · rfl

theorem mem_updateHeld_of_ne {raised : NoticeBody} {part : List Notice} {n : Notice} (h : n ∈ part)
    (hk : n.key ≠ raised.key) : n ∈ updateHeld raised part := by
  simp only [updateHeld, List.mem_map]
  exact ⟨n, h, by simp [hk]⟩

theorem mem_updateHeld_of_eq {raised : NoticeBody} {part : List Notice} {n : Notice} (h : n ∈ part)
    (hk : n.key = raised.key) : n.coalesce raised ∈ updateHeld raised part := by
  simp only [updateHeld, List.mem_map]
  exact ⟨n, h, by simp [hk]⟩

theorem holdsKey_iff (key : NoticeKey) (part : List Notice) : holdsKey key part = true ↔ ∃ n ∈ part, n.key = key := by
  simp [holdsKey]

/-- After a raising the port holds a notice of the raised key: the raised body, or a held one of its key coalesced with it. -/
theorem Port.raise_held (p : Port) (body : NoticeBody) (urgent : Bool) (now : LineTime) :
    ∃ n ∈ (p.raise body urgent now).urgent ++ (p.raise body urgent now).routine,
      n.body = body ∨ ∃ m ∈ p.urgent ++ p.routine, m.key = body.key ∧ n.body = m.body.coalesce body := by
  unfold Port.raise
  split
  · rename_i h
    obtain ⟨n, hn, hk⟩ := (holdsKey_iff _ _).1 h
    exact ⟨_, List.mem_append_left _ (mem_updateHeld_of_eq hn hk), .inr ⟨n, List.mem_append_left _ hn, hk, rfl⟩⟩
  · split
    · rename_i h
      obtain ⟨n, hn, hk⟩ := (holdsKey_iff _ _).1 h
      split
      · have hf : n ∈ p.routine.filter (fun n => n.key == body.key) := List.mem_filter.2 ⟨hn, by simp [hk]⟩
        exact ⟨_, List.mem_append_left _ (List.mem_append_right _ (mem_updateHeld_of_eq hf hk)),
          .inr ⟨n, List.mem_append_right _ hn, hk, rfl⟩⟩
      · exact ⟨_, List.mem_append_right _ (mem_updateHeld_of_eq hn hk), .inr ⟨n, List.mem_append_right _ hn, hk, rfl⟩⟩
    · split
      · exact ⟨⟨body, now⟩, by simp, .inl rfl⟩
      · exact ⟨⟨body, now⟩, by simp, .inl rfl⟩

/-- A raising keeps every notice of another key. -/
theorem Port.raise_keeps (p : Port) (body : NoticeBody) (urgent : Bool) (now : LineTime) {n : Notice}
    (h : n ∈ p.urgent ++ p.routine) (hk : n.key ≠ body.key) :
    n ∈ (p.raise body urgent now).urgent ++ (p.raise body urgent now).routine := by
  have hu : ∀ part, n ∈ part → n ∈ updateHeld body part := fun _ hm => mem_updateHeld_of_ne hm hk
  have hd : n ∈ p.routine → n ∈ dropKey body.key p.routine := fun hm => List.mem_filter.2 ⟨hm, by simpa using hk⟩
  rw [List.mem_append] at h
  obtain e | ⟨-, e⟩ | e | e | e := p.raise_cases body urgent now <;> rw [e] <;>
    simp only [Port.withNotices_urgent, Port.withNotices_routine, List.mem_append] <;>
    rcases h with h | h <;> simp_all

/-! The whole state. -/

/-- A state that differs from another in notice queues and attention lines alone. -/
structure NoticesOnly (s t : State) : Prop where
  rest : t = { s with ports := t.ports }
  link : ∀ p, (t.port p).rate = (s.port p).rate ∧ (t.port p).rx = (s.port p).rx ∧
    (t.port p).replies = (s.port p).replies ∧ (t.port p).trip = (s.port p).trip

theorem NoticesOnly.refl (s : State) : NoticesOnly s s := ⟨rfl, fun _ => ⟨rfl, rfl, rfl, rfl⟩⟩

theorem NoticesOnly.trans {s t u : State} (h : NoticesOnly s t) (k : NoticesOnly t u) : NoticesOnly s u := by
  refine ⟨?_, fun p => ?_⟩
  · have h1 := h.rest
    have k1 := k.rest
    rw [h1] at k1
    simpa using k1
  · obtain ⟨a, b, c, d⟩ := h.link p
    obtain ⟨e, f, g, i⟩ := k.link p
    exact ⟨e.trans a, f.trans b, g.trans c, i.trans d⟩

/-- What stands through a change of notices. -/
theorem NoticesOnly.same {s t : State} (h : NoticesOnly s t) :
    t.config = s.config ∧ t.n = s.n ∧ t.lineTime = s.lineTime ∧ t.stations = s.stations ∧ t.free = s.free ∧
      t.queues = s.queues ∧ t.spans = s.spans ∧ t.segments = s.segments ∧ t.watches = s.watches ∧
      t.lastGranted = s.lastGranted ∧ t.pending = s.pending := by
  rw [h.rest]
  exact ⟨rfl, rfl, rfl, rfl, rfl, rfl, rfl, rfl, rfl, rfl, rfl⟩

theorem noticesOnly_setPort (s : State) (p : PortId) (x : Port)
    (h : x.rate = (s.port p).rate ∧ x.rx = (s.port p).rx ∧ x.replies = (s.port p).replies ∧ x.trip = (s.port p).trip) :
    NoticesOnly s (s.setPort p x) := by
  refine ⟨rfl, fun q => ?_⟩
  by_cases hq : q = p
  · subst hq
    simpa using h
  · simp [hq]

theorem noticesOnly_raise (s : State) (p : PortId) (body : NoticeBody) (urgent : Bool) :
    NoticesOnly s (s.raise p body urgent) :=
  noticesOnly_setPort s p _ ((s.port p).raise_link body urgent s.lineTime)

theorem noticesOnly_withdrawResolve (s : State) (st : StationId) : NoticesOnly s (s.withdrawResolve st) :=
  noticesOnly_setPort s st _ ⟨rfl, rfl, rfl, rfl⟩

theorem noticesOnly_raiseToEnds (s : State) (j : SpanId) (body : NoticeBody) (urgent : Bool) :
    NoticesOnly s (s.raiseToEnds j body urgent) := by
  unfold State.raiseToEnds
  split
  · exact .refl s
  · exact (noticesOnly_raise _ _ _ _).trans (noticesOnly_raise _ _ _ _)

theorem noticesOnly_raiseSpan (s : State) (j : SpanId) (event : SpanEvent) : NoticesOnly s (s.raiseSpan j event) :=
  noticesOnly_raiseToEnds _ _ _ _

theorem noticesOnly_announceVerdict (s : State) (j : SpanId) (before : Verdict) :
    NoticesOnly s (s.announceVerdict j before) := by
  unfold State.announceVerdict
  split
  · exact .refl s
  · exact noticesOnly_raiseToEnds _ _ _ _

/-- After a raising the port holds the raised body, unless it is a VERDICT. -/
theorem raise_holds (s : State) (p : PortId) (body : NoticeBody) (urgent : Bool) (h : ∀ j a b, body ≠ .verdict j a b) :
    ∃ n ∈ ((s.raise p body urgent).port p).urgent ++ ((s.raise p body urgent).port p).routine, n.body = body := by
  obtain ⟨n, hn, hb⟩ := (s.port p).raise_held body urgent s.lineTime
  refine ⟨n, by simpa [State.raise] using hn, ?_⟩
  obtain hb | ⟨m, -, -, hb⟩ := hb
  · exact hb
  · rw [hb, NoticeBody.coalesce_body _ _ h]

/-- A notice held by a port stays through a raising of another key, to any port. -/
theorem raise_keeps (s : State) (p q : PortId) (body : NoticeBody) (urgent : Bool) {n : Notice}
    (h : n ∈ (s.port q).urgent ++ (s.port q).routine) (hk : n.key ≠ body.key) :
    n ∈ ((s.raise p body urgent).port q).urgent ++ ((s.raise p body urgent).port q).routine := by
  by_cases hq : q = p
  · subst hq
    simpa [State.raise] using (s.port q).raise_keeps body urgent s.lineTime h hk
  · simpa [State.raise, hq] using h

end Sys2Proof.Machine
end

