-- ==== Sys2Proof/Laws/Store.lean ====
section
/-! SUPPORT. What a sample offered to the watch unit and each operation of the parcel store can do. -/

namespace Sys2Proof.Machine

/-! Samples: watch counters, notice queues and attention lines alone. -/

/-- What samples leave of a counter: its owner, its configuration and its options. -/
def Watch.setting (w : Watch) :
    Option PortId × WatchSource × Option SpanId × BitVec 4 × BitVec 4 × WatchMode × Int × Bool × Bool :=
  (w.owner, w.source, w.filter, w.origins, w.banks, w.mode, w.threshold, w.notify, w.freeze)

/-- A state that differs from another as samples can make it differ. -/
structure SamplesOnly (s t : State) : Prop where
  rest : t = { s with watches := t.watches, ports := t.ports }
  link : ∀ p, (t.port p).rate = (s.port p).rate ∧ (t.port p).rx = (s.port p).rx ∧
    (t.port p).replies = (s.port p).replies ∧ (t.port p).trip = (s.port p).trip
  setting : ∀ i, (t.watch i).setting = (s.watch i).setting

theorem SamplesOnly.refl (s : State) : SamplesOnly s s := ⟨rfl, fun _ => ⟨rfl, rfl, rfl, rfl⟩, fun _ => rfl⟩

theorem SamplesOnly.trans {s t u : State} (h : SamplesOnly s t) (k : SamplesOnly t u) : SamplesOnly s u := by
  refine ⟨?_, fun p => ?_, fun i => (k.setting i).trans (h.setting i)⟩
  · have h1 := h.rest
    have k1 := k.rest
    rw [h1] at k1
    simpa using k1
  · obtain ⟨a, b, c, d⟩ := h.link p
    obtain ⟨e, f, g, i⟩ := k.link p
    exact ⟨e.trans a, f.trans b, g.trans c, i.trans d⟩

theorem NoticesOnly.samplesOnly {s t : State} (h : NoticesOnly s t) : SamplesOnly s t := by
  refine ⟨?_, h.link, fun i => ?_⟩
  · have := h.rest
    rw [this]
  · rw [h.rest]
    rfl

@[simp] theorem Watch.take_setting (w : Watch) (x : Int) : (w.take x).setting = w.setting := rfl

theorem Watch.freezeIf_setting (p : PortId) (f : Bool) (w : Watch) : (w.freezeIf p f).setting = w.setting := by
  unfold Watch.freezeIf
  split <;> rfl

@[simp] theorem freezeOwned_watch (s : State) (p : PortId) (f : Bool) (i : WatchId) :
    (s.freezeOwned p f).watch i = (s.watch i).freezeIf p f := by
  simp [State.freezeOwned, State.watch]

theorem samplesOnly_freezeOwned (s : State) (p : PortId) (f : Bool) : SamplesOnly s (s.freezeOwned p f) :=
  ⟨rfl, fun _ => ⟨rfl, rfl, rfl, rfl⟩, fun i => by simp [Watch.freezeIf_setting]⟩

theorem samplesOnly_onOverflow (s : State) (i : WatchId) (w : Watch) : SamplesOnly s (s.onOverflow i w) := by
  unfold State.onOverflow
  cases w.owner with
  | none => exact .refl s
  | some p =>
    have hn : SamplesOnly s (if w.notify then s.raise p (.watch i w.value) false else s) := by
      split
      · exact (noticesOnly_raise _ _ _ _).samplesOnly
      · exact .refl s
    simp only
    split
    · exact hn.trans (samplesOnly_freezeOwned _ _ _)
    · exact hn

theorem samplesOnly_setWatch (s : State) (i : WatchId) (w : Watch) (h : w.setting = (s.watch i).setting) :
    SamplesOnly s (s.setWatch i w) := by
  refine ⟨rfl, fun _ => ⟨rfl, rfl, rfl, rfl⟩, fun k => ?_⟩
  by_cases hk : k = i
  · subst hk
    simpa using h
  · simp [hk]

/-- A sample offered to one counter. -/
theorem samplesOnly_offerTo (s : State) (x : Sample) (i : WatchId) : SamplesOnly s (s.offerTo x i) := by
  unfold State.offerTo
  simp only
  split
  · have h := samplesOnly_setWatch s i ((s.watch i).take x.value) (Watch.take_setting _ _)
    split
    · exact h.trans (samplesOnly_onOverflow _ _ _)
    · exact h
  · exact .refl s

/-- A counter that does not take a sample, and a sample it is offered, leave the state as it is (R154). -/
theorem offerTo_of_not_takes (s : State) (x : Sample) (i : WatchId) (h : (s.watch i).takes x = false) :
    s.offerTo x i = s := by
  simp [State.offerTo, h]

theorem samplesOnly_foldl {α : Type} (f : State → α → State) (h : ∀ s a, SamplesOnly s (f s a)) (xs : List α) (s : State) :
    SamplesOnly s (xs.foldl f s) := by
  induction xs generalizing s with
  | nil => exact .refl s
  | cons a xs ih => exact (h s a).trans (ih _)

theorem samplesOnly_offer (s : State) (x : Sample) : SamplesOnly s (s.offer x) :=
  samplesOnly_foldl _ (fun t i => samplesOnly_offerTo t x i) _ s

theorem samplesOnly_offerAll (s : State) (xs : List Sample) : SamplesOnly s (s.offerAll xs) :=
  samplesOnly_foldl _ samplesOnly_offer xs s

/-- What stands through samples. -/
theorem SamplesOnly.same {s t : State} (h : SamplesOnly s t) :
    t.config = s.config ∧ t.n = s.n ∧ t.lineTime = s.lineTime ∧ t.stations = s.stations ∧ t.free = s.free ∧
      t.queues = s.queues ∧ t.spans = s.spans ∧ t.segments = s.segments ∧ t.lastGranted = s.lastGranted ∧
      t.pending = s.pending := by
  rw [h.rest]
  exact ⟨rfl, rfl, rfl, rfl, rfl, rfl, rfl, rfl, rfl, rfl⟩

/-! The store: the free list, the queues, and what the samples of a reclaim change. -/

/-- A state that differs from another as store operations can make it differ. -/
structure StoreOnly (s t : State) : Prop where
  rest : t = { s with free := t.free, queues := t.queues, watches := t.watches, ports := t.ports }
  link : ∀ p, (t.port p).rate = (s.port p).rate ∧ (t.port p).rx = (s.port p).rx ∧
    (t.port p).replies = (s.port p).replies ∧ (t.port p).trip = (s.port p).trip
  setting : ∀ i, (t.watch i).setting = (s.watch i).setting

theorem StoreOnly.refl (s : State) : StoreOnly s s := ⟨rfl, fun _ => ⟨rfl, rfl, rfl, rfl⟩, fun _ => rfl⟩

theorem StoreOnly.trans {s t u : State} (h : StoreOnly s t) (k : StoreOnly t u) : StoreOnly s u := by
  refine ⟨?_, fun p => ?_, fun i => (k.setting i).trans (h.setting i)⟩
  · have h1 := h.rest
    have k1 := k.rest
    rw [h1] at k1
    simpa using k1
  · obtain ⟨a, b, c, d⟩ := h.link p
    obtain ⟨e, f, g, i⟩ := k.link p
    exact ⟨e.trans a, f.trans b, g.trans c, i.trans d⟩

theorem SamplesOnly.storeOnly {s t : State} (h : SamplesOnly s t) : StoreOnly s t := by
  refine ⟨?_, h.link, h.setting⟩
  have := h.rest
  rw [this]

theorem storeOnly_setFree (s : State) (x : List Nat) : StoreOnly s (s.setFree x) :=
  ⟨rfl, fun _ => ⟨rfl, rfl, rfl, rfl⟩, fun _ => rfl⟩

theorem storeOnly_setQueue (s : State) (j : SpanId) (x : List Parcel) : StoreOnly s (s.setQueue j x) :=
  ⟨rfl, fun _ => ⟨rfl, rfl, rfl, rfl⟩, fun _ => rfl⟩

theorem storeOnly_reclaim (s : State) : StoreOnly s s.reclaim := by
  unfold State.reclaim
  split
  · exact ((storeOnly_setQueue _ _ _).trans (storeOnly_setFree _ _)).trans (samplesOnly_offer _ _).storeOnly
  · exact .refl s

theorem storeOnly_takeFree (s : State) : StoreOnly s s.takeFree.2 := by
  unfold State.takeFree
  split
  · exact .refl s
  · exact storeOnly_setFree _ _

theorem storeOnly_allocate (s : State) : StoreOnly s s.allocate.2 := by
  unfold State.allocate
  split
  · exact (storeOnly_reclaim s).trans (storeOnly_takeFree _)
  · exact storeOnly_takeFree s

/-- With a record on the free list, an allocation takes its head and touches nothing else (R57). -/
theorem allocate_of_free (s : State) (i : Nat) (rest : List Nat) (h : s.free = i :: rest) :
    s.allocate = (i, s.setFree rest) := by
  simp [State.allocate, State.takeFree, h]

/-- The free list and the queues after a reclaim, with the record it frees at the tail (R58, R59). -/
theorem reclaim_store (s : State) (a b : Parcel) (ps : List Parcel) (h : s.queue s.fullest = a :: b :: ps) :
    s.reclaim.free = s.free ++ [b.index] ∧ s.reclaim.queue s.fullest = a.join b :: ps ∧
      ∀ j, j ≠ s.fullest → s.reclaim.queue j = s.queue j := by
  unfold State.reclaim
  rw [h]
  simp only
  have hs := (samplesOnly_offer ((s.setQueue s.fullest (a.join b :: ps)).setFree (s.free ++ [b.index]))
    ⟨.reclaims, 1, some s.fullest, none, none⟩).same
  refine ⟨?_, ?_, fun j hj => ?_⟩
  · rw [hs.2.2.2.2.1]
    rfl
  · simp only [State.queue]
    rw [hs.2.2.2.2.2.1]
    exact Trio.get_set_same _ _ _
  · simp only [State.queue]
    rw [hs.2.2.2.2.2.1]
    exact Trio.get_set_ne _ _ hj

theorem storeOnly_append (s : State) (j : SpanId) (p : Parcel) : StoreOnly s (s.append j p) := storeOnly_setQueue _ _ _

theorem storeOnly_drained (s : State) (j : SpanId) (d : DrainReport) : StoreOnly s (s.drained j d) :=
  (storeOnly_setQueue _ _ _).trans (storeOnly_setFree _ _)

theorem storeOnly_release (s : State) (j : SpanId) : StoreOnly s (s.release j) :=
  (storeOnly_setFree _ _).trans (storeOnly_setQueue _ _ _)

theorem storeOnly_divert (s : State) (up down : SpanId) : StoreOnly s (s.divert up down) :=
  (storeOnly_setQueue _ _ _).trans (storeOnly_setQueue _ _ _)

theorem storeOnly_splitQueue (s : State) (k j : SpanId) (t : Nat) : StoreOnly s (s.splitQueue k j t) := by
  unfold State.splitQueue
  split
  · exact (storeOnly_setQueue _ _ _).trans (storeOnly_setQueue _ _ _)
  · simp only
    split
    · exact ((storeOnly_allocate s).trans (storeOnly_setQueue _ _ _)).trans (storeOnly_setQueue _ _ _)
    · exact (((storeOnly_allocate s).trans (storeOnly_setQueue _ _ _)).trans (storeOnly_setQueue _ _ _)).trans
        (storeOnly_setFree _ _)

/-- What a store operation leaves: the set-up, the stations, the spans and the segments. -/
theorem StoreOnly.same {s t : State} (h : StoreOnly s t) :
    t.config = s.config ∧ t.n = s.n ∧ t.lineTime = s.lineTime ∧ t.stations = s.stations ∧ t.spans = s.spans ∧
      t.segments = s.segments ∧ t.lastGranted = s.lastGranted ∧ t.pending = s.pending := by
  rw [h.rest]
  exact ⟨rfl, rfl, rfl, rfl, rfl, rfl, rfl, rfl⟩

/-- A divert moves the upstream queue whole onto the tail of another (R69). -/
theorem divert_queues (s : State) (up down : SpanId) (h : up ≠ down) :
    (s.divert up down).queue down = s.queue down ++ s.queue up ∧ (s.divert up down).queue up = [] ∧
      (s.divert up down).free = s.free := by
  refine ⟨?_, by simp [State.divert], rfl⟩
  simp [State.divert, Ne.symm h]

/-- A release empties the queue and returns its records to the tail of the free list (R68). -/
theorem release_store (s : State) (j : SpanId) :
    (s.release j).queue j = [] ∧ (s.release j).free = s.free ++ indicesOf (s.queue j) ∧
      ∀ k, k ≠ j → (s.release j).queue k = s.queue k :=
  ⟨by simp [State.release], rfl, fun k hk => by simp [State.release, hk]⟩

end Sys2Proof.Machine
end

