-- ==== Sys2Proof/Laws/Line.lean ====
section
/-! SUPPORT. What re-derivation can do, and what the derived line of a span depends on. -/

namespace Sys2Proof.Machine

/-- The span ends are a function of N and of the service states alone (R10). -/
theorem isSpanEnd_congr {s t : State} (hn : t.n = s.n) (hs : ∀ st, t.inService st = s.inService st) (j : SpanId) :
    t.isSpanEnd j = s.isSpanEnd j := by
  simp [State.isSpanEnd, hn, hs]

theorem upstreamEnd_congr {s t : State} (hn : t.n = s.n) (hs : ∀ st, t.inService st = s.inService st) (j : SpanId) :
    t.upstreamEnd j = s.upstreamEnd j := by
  cases j <;> simp [State.upstreamEnd, isSpanEnd_congr hn hs]

/-- What a span derives depends on N, on the service states and on the segments (R12). -/
theorem lineOf_congr {s t : State} (hn : t.n = s.n) (hs : ∀ st, t.inService st = s.inService st)
    (hg : ∀ k, t.segment k = s.segment k) (j : SpanId) : t.lineOf j = s.lineOf j := by
  simp only [State.lineOf, isSpanEnd_congr hn hs, State.derivedLine, upstreamEnd_congr hn hs, State.thresholdsOver,
    State.sumOver, hg]

theorem lineOf_some {s : State} {j : SpanId} {l : SpanLine} (h : s.lineOf j = some l) :
    s.isSpanEnd j = true ∧ l = s.derivedLine j := by
  unfold State.lineOf at h
  split at h
  · rename_i he
    exact ⟨he, (Option.some.inj h).symm⟩
  · cases h

theorem derivedLine_last (s : State) (j : SpanId) : (s.derivedLine j).last = j := rfl

theorem derivedLine_upstream_lt (s : State) (j : SpanId) : (s.derivedLine j).upstream.val < j.num := by
  cases j <;> simp only [State.derivedLine, State.upstreamEnd, SegId.num]
  · decide
  · split <;> decide
  · split
    · decide
    · split <;> decide

/-- A present span lies on the line: its id is below N (R10). -/
theorem isSpanEnd_lt {s : State} {j : SpanId} (h : s.isSpanEnd j = true) : j.num < s.n := by
  simp only [State.isSpanEnd, Bool.or_eq_true, beq_iff_eq, Bool.and_eq_true, decide_eq_true_eq] at h
  omega

/-- Re-derivation of one span replaces what the record derives and nothing else (R12). -/
theorem rederive_span (s : State) (j k : SpanId) :
    (s.rederive j).span k = if k = j then { s.span j with line := s.lineOf j } else s.span k := by
  by_cases h : k = j
  · subst h
    simp [State.rederive]
  · simp [State.rederive, h]

theorem lineOf_setSpan (s : State) (j k : SpanId) (x : Span) : (s.setSpan j x).lineOf k = s.lineOf k :=
  lineOf_congr rfl (fun _ => rfl) (fun _ => rfl) k

/-- Re-derivation of all spans gives every record what N, the service states and the segments derive for it. -/
theorem rederiveAll_span (s : State) (j : SpanId) : s.rederiveAll.span j = { s.span j with line := s.lineOf j } := by
  cases j <;> simp [State.rederiveAll, State.rederive, lineOf_setSpan]

theorem rederiveAll_rest (s : State) : s.rederiveAll = { s with spans := s.rederiveAll.spans } := rfl

/-- The span whose upstream end a station is, as a search of the records finds it. -/
theorem spanFedBy_some {s : State} {st : StationId} {j : SpanId} (h : s.spanFedBy st = some j) :
    ∃ l, (s.span j).line = some l ∧ l.upstream = st := by
  have := List.find?_some h
  unfold State.feeds at this
  split at this
  · cases this
  · rename_i l hl
    exact ⟨l, hl, by simpa using this⟩

theorem spanContaining_some {s : State} {k : SegId} {j : SpanId} (h : s.spanContaining k = some j) :
    ∃ l, (s.span j).line = some l ∧ l.upstream.val < k.num ∧ k.num ≤ j.num := by
  have := List.find?_some h
  unfold State.covers at this
  split at this
  · cases this
  · rename_i l hl
    exact ⟨l, hl, by simpa using this⟩

/-! Epochs and derivation. -/

/-- What an epoch start keeps (R86). -/
theorem epoch_keeps (sp : Span) (now : LineTime) :
    (sp.epoch now).line = sp.line ∧ (sp.epoch now).state = sp.state ∧ (sp.epoch now).q = sp.q ∧
      (sp.epoch now).s = sp.s ∧ (sp.epoch now).d = sp.d ∧ (sp.epoch now).verdict = sp.verdict ∧
      (sp.epoch now).latch = sp.latch ∧ (sp.epoch now).hold = sp.hold ∧ (sp.epoch now).excess = sp.excess :=
  ⟨rfl, rfl, rfl, rfl, rfl, rfl, rfl, rfl, rfl⟩

/-- What an epoch start sets (R84). -/
theorem epoch_sets (sp : Span) (now : LineTime) :
    (sp.epoch now).epochStart = now ∧ (sp.epoch now).inflow = 0 ∧ (sp.epoch now).outflow = 0 ∧ (sp.epoch now).i = 0 ∧
      (sp.epoch now).updates = 0 ∧ (sp.epoch now).window = [] ∧ (sp.epoch now).o = satS48 sp.excess ∧
      (sp.epoch now).mark = overS48 sp.excess :=
  ⟨rfl, rfl, rfl, rfl, rfl, rfl, rfl, rfl⟩

/-- Derivation sets the verdict and the latch and nothing else. -/
theorem derive_rest (sp : Span) : sp.derive = { sp with verdict := sp.derivedVerdict, latch := sp.derive.latch } := rfl

/-- The verdict of a span that is not OPEN, or whose window is not full, follows its latch. -/
theorem derivedVerdict_of_blind (sp : Span) (h : sp.state ≠ .opened ∨ sp.window.length < windowSize) :
    sp.derivedVerdict = if sp.latch then .leak else .blind := by
  unfold Span.derivedVerdict
  split
  · rfl
  · split
    · rfl
    · rw [if_neg]
      rintro ⟨ho, hw⟩
      rcases h with h | h
      · exact h ho
      · omega

/-! Readings. -/

/-- A state reached by samples from one that changed a station differs from the first in that station's record, as it now
stands, and in what samples change. -/
theorem samplesOnly_station {s t : State} {st : StationId} {x : Station} (h : SamplesOnly (s.setStation st x) t) :
    SamplesOnly (s.setStation st (t.station st)) t := by
  have e : t.station st = x := by
    simp only [State.station, h.same.2.2.2.1]
    exact Quad.get_set_same _ _ _
  rwa [e]

/-- Raising a resolve starts the station's resolve timer, and changes what a notice and a sample change (R39). -/
theorem raiseResolve_samplesOnly (s : State) (st : StationId) (r : Reading) (c : Conversion) :
    SamplesOnly (s.setStation st { s.station st with resolve := some (expiryAfter s.lineTime s.tRes) })
      (s.raiseResolve st r c) :=
  (noticesOnly_raise _ _ _ _).samplesOnly.trans (samplesOnly_offer _ _)

/-- The conversion of a new head changes its station, and what raising a resolve changes (R31, R39). -/
theorem convertHead_samplesOnly (s : State) (st : StationId) :
    SamplesOnly (s.setStation st ((s.convertHead st).station st)) (s.convertHead st) := by
  unfold State.convertHead
  split
  · simpa using SamplesOnly.refl s
  · simp only
    split
    · have h := raiseResolve_samplesOnly
      refine samplesOnly_station (x := ?_) ?_
      rotate_left
      · rw [← setStation_setStation s st]
        exact h _ _ _ _
    · simpa using SamplesOnly.refl _

end Sys2Proof.Machine
end

