-- ==== Sys2Proof/Laws/Engine.lean ====
section
/-! SUPPORT. What each operation of the engine, the span table and the segment table can do: the state it makes, up to the
notices it raises and the samples it offers. -/

namespace Sys2Proof.Machine

/-! The balance engine. -/

/-- A balance update drains the queue and replaces the span's record; the rest is notices and samples (R89). -/
theorem balanceUpdate_samplesOnly (s : State) (j : SpanId) (l : SpanLine) (c : Conversion) (m : Nat) :
    SamplesOnly ((s.drained j (drainQueue c.v (s.queue j))).setSpan j
        (((s.span j).weighed (drainQueue c.v (s.queue j)) c.v m (velocity c.v (s.segment l.last).area c.tC)).judged l.thr
          c.flags (drainQueue c.v (s.queue j)).taint))
      (s.balanceUpdate j l c m) :=
  (noticesOnly_announceVerdict _ _ _).samplesOnly.trans (samplesOnly_offerAll _ _)

/-- An inflow of an IDLE reading sets v_in alone (R88). -/
theorem inflowTo_idle (s : State) (j : SpanId) (l : SpanLine) (st : StationId) (b : BankId) (c : Conversion) (m : Nat)
    (h : c.v = 0) : s.inflowTo j l st b c m = s.setSpan j (s.span j).takeIdleInflow := by
  simp [State.inflowTo, h]

/-- An inflow with volume: an allocation, the parcel at the tail, the record raised; the rest is samples (R48, R87). -/
theorem inflowTo_samplesOnly (s : State) (j : SpanId) (l : SpanLine) (st : StationId) (b : BankId) (c : Conversion)
    (m : Nat) (h : c.v ≠ 0) :
    SamplesOnly ((s.allocate.2.append j ⟨s.allocate.1, st, s.lineTime, c.v, m, b,
        c.flags.ofInflow (s.span j).hold.isSome⟩).setSpan j
        ((s.allocate.2.span j).takeInflow c.v m (velocity c.v (s.segment l.first).area c.tC)))
      (s.inflowTo j l st b c m) := by
  unfold State.inflowTo
  rw [if_neg h]
  exact samplesOnly_offer _ _

/-- The outflow side is a balance update of the span that ends at the station, if it is OPEN, and else nothing (R46, R47). -/
theorem outflowSide_cases (s : State) (st : StationId) (c : Conversion) (m : Nat) :
    s.outflowSide st c m = s ∨ ∃ j l, SegId.endingAt st = some j ∧ (s.span j).line = some l ∧
      (s.span j).state = .opened ∧ s.outflowSide st c m = s.balanceUpdate j l c m := by
  unfold State.outflowSide
  split
  · exact .inl rfl
  · rename_i j hj
    split
    · exact .inl rfl
    · rename_i l hl
      split
      · rename_i ho
        exact .inr ⟨j, l, hj, hl, ho, rfl⟩
      · exact .inl rfl

/-- The inflow side is an inflow to the span that starts at the station, if it is OPEN, and else nothing (R46, R48). -/
theorem inflowSide_cases (s : State) (st : StationId) (b : BankId) (c : Conversion) (m : Nat) :
    s.inflowSide st b c m = s ∨ ∃ j l, s.spanFedBy st = some j ∧ (s.span j).line = some l ∧
      (s.span j).state = .opened ∧ s.inflowSide st b c m = s.inflowTo j l st b c m := by
  unfold State.inflowSide
  split
  · exact .inl rfl
  · rename_i j hj
    split
    · exact .inl rfl
    · rename_i l hl
      split
      · rename_i ho
        exact .inr ⟨j, l, hj, hl, ho, rfl⟩
      · exact .inl rfl

/-! The span table. -/

/-- SPAN_OPEN: an allocation, the prime parcel, the opened record; the rest is notices (R14). -/
theorem openSpan_noticesOnly (s : State) (j : SpanId) (l : SpanLine) (cFill : Nat) :
    ∃ p : Parcel, p = primeParcel s.allocate.1 l s.lineTime cFill (s.station l.upstream) (s.span j).hold.isSome ∧
      NoticesOnly ((s.allocate.2.append j p).setSpan j ((s.allocate.2.span j).openedWith s.lineTime l.vSpan p.solids))
        (s.openSpan j l cFill) :=
  ⟨_, rfl, (noticesOnly_raiseSpan _ _ _).trans (noticesOnly_announceVerdict _ _ _)⟩

/-- SPAN_CLOSE: a release and the closed record; the rest is notices (R15). -/
theorem closeSpan_noticesOnly (s : State) (j : SpanId) :
    NoticesOnly ((s.release j).setSpan j (s.span j).closedOf) (s.closeSpan j) :=
  (noticesOnly_announceVerdict _ _ _).trans (noticesOnly_raiseSpan _ _ _)

/-- A suspension changes the state and the verdict of an OPEN span; the rest is notices (R17). -/
theorem suspendSpan_noticesOnly (s : State) (j : SpanId) (h : (s.span j).state = .opened) :
    NoticesOnly (s.setSpan j (Span.derive { s.span j with state := .suspended })) (s.suspendSpan j) := by
  unfold State.suspendSpan
  rw [if_pos h]
  exact (noticesOnly_raiseSpan _ _ _).trans (noticesOnly_announceVerdict _ _ _)

/-- A resume opens a SUSPENDED span with both ends IN_SERVICE and starts an epoch; the rest is notices (R18). -/
theorem resumeSpan_noticesOnly (s : State) (j : SpanId) (l : SpanLine) (hl : (s.span j).line = some l)
    (h : (s.span j).state = .suspended) (hb : s.bothEndsIn j l = true) :
    NoticesOnly (s.setSpan j (Span.epoch { s.span j with state := .opened } s.lineTime).derive) (s.resumeSpan j) := by
  unfold State.resumeSpan
  rw [hl]
  simp only
  rw [if_pos ⟨h, hb⟩]
  exact (noticesOnly_raiseSpan _ _ _).trans (noticesOnly_announceVerdict _ _ _)

/-- A merge of two parts neither CLOSED; the rest is notices (R20). -/
theorem mergeOpen_noticesOnly (s : State) (k j : SpanId) :
    NoticesOnly (((((s.divert k j).setSpan k Span.blank).setSpan j
        ((s.span j).mergedWith (s.span k) s.lineTime)).rederiveAll).restartSpan j) (s.mergeOpen k j) :=
  (noticesOnly_raiseSpan _ _ _).trans (noticesOnly_announceVerdict _ _ _)

/-- A merge with a CLOSED part; the rest is notices (R19). -/
theorem mergeClosed_noticesOnly (s : State) (k j : SpanId) (a b : State)
    (ha : a = if (s.span k).state = .closed then s else s.release k)
    (hb : b = if (s.span j).state = .closed then a else a.release j) :
    NoticesOnly (((b.setSpan k Span.blank).setSpan j (s.span j).closedOf).rederiveAll) (s.mergeClosed k j) := by
  subst hb ha
  exact (noticesOnly_announceVerdict _ _ _).trans (noticesOnly_raiseSpan _ _ _)

/-- A split of a CLOSED span; the rest is notices (R21). -/
theorem splitClosed_noticesOnly (s : State) (k j : SpanId) :
    NoticesOnly ((s.setSpan k Span.blank).rederiveAll) (s.splitClosed k j) :=
  (noticesOnly_raiseSpan _ _ _).trans (noticesOnly_raiseSpan _ _ _)

/-- A split of a span that is not CLOSED; the rest is notices (R22). -/
theorem splitOpen_noticesOnly (s : State) (k j : SpanId) (a b : State) (ha : a = (s.setSpan k Span.blank).rederiveAll)
    (hb : b = a.splitQueue k j (a.span j).vSpan) :
    NoticesOnly ((((b.setSpan k (b.halfOf k (s.span j))).setSpan j (b.halfOf j (s.span j))).restartSpan k).restartSpan j)
      (s.splitOpen k j) := by
  subst hb ha
  exact (((noticesOnly_raiseSpan _ _ _).trans (noticesOnly_raiseSpan _ _ _)).trans
    (noticesOnly_announceVerdict _ _ _)).trans (noticesOnly_announceVerdict _ _ _)

/-! Service changes. -/

theorem tellOther_noticesOnly (s : State) (st : StationId) (v : ServiceState) (p : PortId) :
    NoticesOnly s (s.tellOther st v p) := by
  unfold State.tellOther
  split
  · exact noticesOnly_raise _ _ _ _
  · exact .refl s

theorem tellOthers_noticesOnly (s : State) (st : StationId) (v : ServiceState) : NoticesOnly s (s.tellOthers st v) :=
  (((tellOther_noticesOnly _ _ _ _).trans (tellOther_noticesOnly _ _ _ _)).trans (tellOther_noticesOnly _ _ _ _)).trans
    (tellOther_noticesOnly _ _ _ _)

/-- A service change records the state, tells the other ports, and then changes the spans as the change takes the station
out of IN_SERVICE, into it, or neither (R7). -/
theorem changeService_cases (s : State) (st : StationId) (v : ServiceState) (e : Option LineTime) :
    ∃ t, NoticesOnly (s.recordService st v e) t ∧
      ((s.inService st = true ∧ v ≠ .inService ∧ s.changeService st v e = t.stationLeft st) ∨
        (s.inService st = false ∧ v = .inService ∧ s.changeService st v e = t.stationReturned st) ∨
        s.changeService st v e = t) := by
  refine ⟨_, tellOthers_noticesOnly (s.recordService st v e) st v, ?_⟩
  unfold State.changeService
  simp only
  split
  · rename_i h
    exact .inl ⟨h.1, h.2, rfl⟩
  · split
    · rename_i h
      exact .inr (.inl ⟨h.1, h.2, rfl⟩)
    · exact .inr (.inr rfl)

/-! The segment table. -/

/-- A proposal recorded or replaced; the rest is notices (R132). -/
theorem recordProposal_noticesOnly (s : State) (p : StationId) (k : SegId) (x : Settings) :
    NoticesOnly (s.setSegment k { s.segment k with proposal := some ⟨p, x, expiryAfter s.lineTime s.tAgree⟩ })
      (s.recordProposal p k x) :=
  noticesOnly_raise _ _ _ _

/-- A changed geometry starts an epoch on a span that is not CLOSED; the rest is notices (R138). -/
theorem geometryEpoch_noticesOnly (s : State) (j : SpanId) (h : (s.span j).state ≠ .closed) :
    NoticesOnly (s.setSpan j ((s.span j).epoch s.lineTime).derive) (s.geometryEpoch j) := by
  unfold State.geometryEpoch
  rw [if_neg h]
  exact (noticesOnly_raiseSpan _ _ _).trans (noticesOnly_announceVerdict _ _ _)

/-- An application replaces the segment's settings with its geometry derived and its proposal gone, and then reaches the one
span that contains the segment (R137). -/
theorem applySettings_cases (s : State) (k : SegId) (x : Settings) :
    ∃ t, NoticesOnly (s.setSegment k { (s.segment k).withSettings x with proposal := none }) t ∧
      s.applySettings k x =
        t.applyToSpan k ((s.segment k).settings.length != x.length || (s.segment k).settings.dPipe != x.dPipe) :=
  ⟨_, (noticesOnly_raise _ _ _ _).trans (noticesOnly_raise _ _ _ _), rfl⟩

/-- Steps 5 and 6 of an application (R137 to R139). -/
theorem applyToSpan_cases (s : State) (k : SegId) (changed : Bool) :
    (s.spanContaining k = none ∧ s.applyToSpan k changed = s) ∨
      ∃ j, s.spanContaining k = some j ∧
        s.applyToSpan k changed = if changed then (s.rederive j).geometryEpoch j else s.rederive j := by
  unfold State.applyToSpan
  split
  · rename_i h
    exact .inl ⟨h, rfl⟩
  · rename_i j h
    exact .inr ⟨j, h, rfl⟩

end Sys2Proof.Machine
end

