-- ==== Sys2Proof/Laws/Layouts.lean ====
section
/-! SUPPORT. What runs of bytes are laid out as which fields: one lemma for each way a layout's bytes are built. -/

namespace Sys2Proof.Machine

/-- A run that holds the bytes of a field is at least as long as the field. -/
theorem length_of_field {n : Nat} {v : Int} {bytes : List Byte}
    (h : ∀ i, i < n → bytes[i]? = some (BitVec.ofInt 8 (v / 256 ^ i))) : n ≤ bytes.length := by
  cases n with
  | zero => exact Nat.zero_le _
  | succ n =>
    have := h n (Nat.lt_succ_self n)
    rw [List.getElem?_eq_some_iff] at this
    exact this.1

/-- Two runs, one after the other, are laid out as the fields of the one and then those of the other. -/
theorem laidOut_append {xs ys : List Field} {a b : List Byte} (ha : laidOut xs a) (hb : laidOut ys b) :
    laidOut (xs ++ ys) (a ++ b) := by
  induction xs generalizing a with
  | nil => cases ha; exact hb
  | cons x xs ih =>
    obtain ⟨n, v⟩ := x
    obtain ⟨h, hr⟩ := ha
    have hn : n ≤ a.length := length_of_field h
    refine ⟨fun i hi => ?_, ?_⟩
    · rw [List.getElem?_append_left (by omega)]
      exact h i hi
    · rw [List.drop_append_of_le_length hn]
      exact ih hr

theorem leBytes_length (n x : Nat) : (leBytes n x).length = n := by
  induction n generalizing x with
  | zero => rfl
  | succ n ih => simp [leBytes, ih]

/-- Byte i of a value is the value divided by 256 to the i, modulo 256. -/
theorem leBytes_getElem (n x i : Nat) (h : i < n) : (leBytes n x)[i]? = some (BitVec.ofNat 8 (x / 256 ^ i)) := by
  induction n generalizing x i with
  | zero => omega
  | succ n ih =>
    cases i with
    | zero => simp [leBytes]
    | succ i =>
      simp only [leBytes, List.getElem?_cons_succ]
      rw [ih _ _ (by omega), Nat.div_div_eq_div_mul, pow_succ, Nat.mul_comm]

/-- A value in n bytes, least significant first, is one field. -/
theorem laidOut_leBytes (n x : Nat) : laidOut [(n, (x : Int))] (leBytes n x) := by
  refine ⟨fun i hi => ?_, ?_⟩
  · rw [leBytes_getElem n x i hi]
    congr 1
  · simp [laidOut, leBytes_length]

/-- A byte is one field. -/
theorem laidOut_byte (b : Byte) : laidOut [(1, (b.toNat : Int))] [b] := by
  refine ⟨fun i hi => ?_, rfl⟩
  obtain rfl : i = 0 := by omega
  simp

/-- A byte made of a number is one field. -/
theorem laidOut_nat (x : Nat) : laidOut [(1, (x : Int))] [byte x] := by
  refine ⟨fun i hi => ?_, rfl⟩
  obtain rfl : i = 0 := by omega
  simp [byte]

/-- A signed value in n bytes is one field. -/
theorem laidOut_signedBytes (n : Nat) (x : Int) : laidOut [(n, x)] (signedBytes n x) := by
  refine ⟨fun i hi => ?_, by simp [laidOut, signedBytes, leBytes_length]⟩
  rw [signedBytes, leBytes_getElem _ _ i hi]
  congr 1
  obtain ⟨k, rfl⟩ : ∃ k, n = i + (k + 1) := ⟨n - i - 1, by omega⟩
  have hp : (0 : Int) < 256 ^ i := by positivity
  have hq : (0 : Int) < 256 ^ (i + (k + 1)) := by positivity
  have e : ((x % 256 ^ (i + (k + 1))).toNat : Int) = x % 256 ^ (i + (k + 1)) :=
    Int.toNat_of_nonneg (Int.emod_nonneg _ hq.ne')
  have h : ((x % 256 ^ (i + (k + 1))).toNat / 256 ^ i : Nat) = x / 256 ^ i - 256 * (256 ^ k * (x / 256 ^ (i + (k + 1)))) := by
    push_cast
    rw [e, Int.emod_def, pow_add, pow_succ,
      show x - 256 ^ i * (256 ^ k * 256) * (x / (256 ^ i * (256 ^ k * 256)))
        = x + 256 ^ i * -(256 * (256 ^ k * (x / (256 ^ i * (256 ^ k * 256))))) by ring,
      Int.add_mul_ediv_left _ _ hp.ne']
    ring
  apply BitVec.eq_of_toInt_eq
  rw [BitVec.toInt_ofNat', BitVec.toInt_ofInt, Nat.cast_pow, show ((256 : Nat) : Int) = 256 from rfl, h,
    sub_eq_add_neg, ← mul_neg]
  simp [Int.bmod_def]

end Sys2Proof.Machine
end

