-- ==== Sys2Proof/Laws/Requests.lean ====
section
/-! SUPPORT. What a port does with a command: every command has a next state, and a request that its port takes is what its
owning block answers. -/

namespace Sys2Proof.Machine

/-- Every command answers a next state: no step faults and none is refused. -/
theorem exec_next (c : Instr) (s : State) : ∃ t, exec c s = .next t := by
  cases c <;> exact ⟨_, rfl⟩

/-- A request's row is the completion of its frame (R166, R167). -/
theorem exec_requestRow (p : PortId) (r : Request) (s : State) : exec (requestRow p r) s = .next (s.completeRequest p r) := by
  cases r <;> rfl

/-- A receiver that receives nothing completes no frame. -/
theorem completeRequest_of_deaf {s : State} {p : PortId} (r : Request) (h : (s.port p).rx.listening = false) :
    s.completeRequest p r = s := by
  simp [State.completeRequest, h]

/-- With the buffer full, a frame is discarded (R167). -/
theorem completeRequest_of_full {s : State} {p : PortId} (r : Request) (h : (s.port p).rx.listening = true)
    (hb : s.bufferFull p = true) : s.completeRequest p r = s.setRx p .hunt := by
  simp [State.completeRequest, h, hb]

/-- A request that its port takes is screened through. -/
theorem screen_of_takes {s : State} {p : PortId} (r : Request) (h : s.takes p) : (s.setRx p .hunt).screen p r = none := by
  obtain ⟨hc, hp, -⟩ := h
  unfold State.screen
  split
  · rfl
  · have h1 : (s.setRx p .hunt).config = .configured := hc
    have h2 : (s.setRx p .hunt).isConfigured p = true := hp
    simp [h1, h2]

/-- A request that its port takes: the owning block answers with the receiver back in HUNT, and the reply is placed (R167,
R168). -/
theorem completeRequest_of_takes {s : State} {p : PortId} (r : Request) (h : s.takes p) :
    s.completeRequest p r =
      (answerTo p r (s.setRx p .hunt)).state.reply p r.kind (answerTo p r (s.setRx p .hunt)).result
        (answerTo p r (s.setRx p .hunt)).body := by
  obtain ⟨-, -, hl, hb⟩ := id h
  simp [State.completeRequest, hl, hb, State.takeRequest, screen_of_takes r h]

/-- An answer that refuses, or that reports without a change, is the reply alone (R168). -/
theorem reply_setRx (s : State) (p : PortId) (kind : Byte) (result : Result) (body : ReplyBody) :
    (s.setRx p .hunt).reply p kind result body = s.answered p kind result body := by
  simp [State.reply, State.setRx, State.answered, Port.reply]

/-- An answer that changes one station is that change and the reply. -/
theorem reply_setStation (s : State) (p : PortId) (st : StationId) (x : Station) (kind : Byte) (result : Result)
    (body : ReplyBody) :
    ((s.setRx p .hunt).setStation st x).reply p kind result body = (s.setStation st x).answered p kind result body := by
  simp [State.reply, State.setRx, State.answered, Port.reply, ← setPort_setStation_comm]

/-- An answer that changes one watch counter is that change and the reply. -/
theorem reply_setWatch (s : State) (p : PortId) (i : WatchId) (x : Watch) (kind : Byte) (result : Result)
    (body : ReplyBody) :
    ((s.setRx p .hunt).setWatch i x).reply p kind result body = (s.setWatch i x).answered p kind result body := by
  simp [State.reply, State.setRx, State.answered, Port.reply, ← setPort_setWatch_comm]

@[simp] theorem setRx_station (s : State) (p : PortId) (rx : Receiver) (st : StationId) :
    (s.setRx p rx).station st = s.station st := rfl
@[simp] theorem setRx_span (s : State) (p : PortId) (rx : Receiver) (j : SpanId) : (s.setRx p rx).span j = s.span j := rfl
@[simp] theorem setRx_segment (s : State) (p : PortId) (rx : Receiver) (k : SegId) :
    (s.setRx p rx).segment k = s.segment k := rfl
@[simp] theorem setRx_queue (s : State) (p : PortId) (rx : Receiver) (j : SpanId) : (s.setRx p rx).queue j = s.queue j := rfl
@[simp] theorem setRx_watch (s : State) (p : PortId) (rx : Receiver) (i : WatchId) : (s.setRx p rx).watch i = s.watch i := rfl
@[simp] theorem setRx_free (s : State) (p : PortId) (rx : Receiver) : (s.setRx p rx).free = s.free := rfl
@[simp] theorem setRx_n (s : State) (p : PortId) (rx : Receiver) : (s.setRx p rx).n = s.n := rfl
@[simp] theorem setRx_lineTime (s : State) (p : PortId) (rx : Receiver) : (s.setRx p rx).lineTime = s.lineTime := rfl
@[simp] theorem setRx_lineOf (s : State) (p : PortId) (rx : Receiver) (j : SpanId) : (s.setRx p rx).lineOf j = s.lineOf j :=
  lineOf_congr rfl (fun _ => rfl) (fun _ => rfl) j

/-- An invariant that every command keeps is one that every step keeps, if taking a command off the queue keeps it. -/
theorem step_keeps {Inv : State → Prop} (hq : ∀ s rest, Inv s → Inv { s with pending := rest })
    (h : ∀ c s t, Inv s → exec c s = .next t → Inv t) (s t : State) (hs : Inv s) (ht : step s = .next t) : Inv t := by
  unfold step at ht
  split at ht
  · cases ht
    exact hs
  · exact h _ _ _ (hq s _ hs) ht

end Sys2Proof.Machine
end

