-- ==== Sys2Proof/Laws/Words.lean ====
section
/-! SUPPORT. What the model's own tests say, in the words that claims use. -/

namespace Sys2Proof.Machine

theorem headReady_iff {x : Station} {r : Reading} {c : Conversion} {m : Nat} :
    x.headReady r c m ↔ x.readyHead = some (r, c, m) := by
  unfold Station.headReady Station.readyHead
  cases hq : x.queue with
  | nil => simp
  | cons a as =>
    simp only [List.head?_cons, Option.some.injEq]
    constructor
    · rintro ⟨rfl, h⟩
      simp [h]
    · intro h
      split at h
      · cases h
        exact ⟨rfl, by assumption⟩
      · cases h

theorem not_headReady_iff {x : Station} : (∀ r c m, ¬ x.headReady r c m) ↔ x.readyHead = none := by
  simp only [headReady_iff]
  cases x.readyHead with
  | none => simp
  | some y => exact ⟨fun h => absurd rfl (h y.1 y.2.1 y.2.2), fun h => by cases h⟩

theorem grantsTo_iff {s : State} {p : PortId} {r : Reading} {c : Conversion} {m : Nat} :
    s.grantsTo p r c m ↔ (s.station p).readyHead = some (r, c, m) ∧
      ∀ q, turnOf s.lastGranted q < turnOf s.lastGranted p → (s.station q).readyHead = none :=
  and_congr headReady_iff (forall₂_congr fun _ _ => not_headReady_iff)

theorem isEndOf_iff {st : StationId} {j : SpanId} {l : SpanLine} :
    isEndOf st j l = true ↔ st = l.upstream ∨ st = j.downStation := by simp [isEndOf]

theorem isEndOfSegment_iff {st : StationId} {k : SegId} :
    isEndOfSegment st k = true ↔ st = k.upStation ∨ st = k.downStation := by simp [isEndOfSegment]

theorem isLineEnd_iff {s : State} {st : StationId} : s.isLineEnd st = true ↔ st.val = 0 ∨ st.val + 1 = s.n := by
  simp only [State.isLineEnd, Bool.or_eq_true, beq_iff_eq, Fin.ext_iff, Fin.val_zero]

theorem covers_iff {s : State} {j k : SegId} {l : SpanLine} (h : (s.span j).line = some l) :
    s.covers j k = true ↔ l.upstream.val < k.num ∧ k.num ≤ j.num := by simp [State.covers, h]

theorem bothEndsIn_iff {s : State} {j : SpanId} {l : SpanLine} :
    s.bothEndsIn j l = true ↔ s.inService l.upstream = true ∧ s.inService j.downStation = true := by
  simp [State.bothEndsIn]

theorem excess_of_line {sp : Span} {l : SpanLine} (h : sp.line = some l) :
    sp.excess = (sp.q : Int) - sp.d - l.vSpan := by simp [Span.excess, Span.vSpan, h]

end Sys2Proof.Machine
end

