-- ==== Sys2Proof/Tests/Slice0.lean ====
section
/-! SUPPORT. Tests against the spec's worked examples, and for every statement with hypotheses a witness that meets them. -/

namespace Sys2Proof.Tests

set_option Elab.async false

open Sys2Proof Sys2Proof.Machine

/-! Well-formedness. -/

/-- An image of 248 bytes is ill-formed (R190). -/
theorem test_image_length_refused : (Instr.imageReadComplete (List.replicate 248 0)).wellFormed = false := by decide +kernel

/-- A request kind is no unknown kind (R167). -/
theorem test_known_kind_refused : (Instr.unknownKind 0 0x45).wellFormed = false := by decide +kernel

theorem test_unknown_kind_accepted : (Instr.unknownKind 0 0x46).wellFormed = true := by decide +kernel

/-! Checks, frames and fields, from R166, R182 and R187. -/

def digits : List Byte := [0x31, 0x32, 0x33, 0x34, 0x35, 0x36, 0x37, 0x38, 0x39]

/-- R166: the check of "123456789" is 0x29B1. -/
theorem test_link_check : crc16 digits = 0x29B1#16 := by decide +kernel

/-- R182: the image check of "123456789" is 0xCBF43926. -/
theorem test_image_check : crc32 digits = 0xCBF43926#32 := by decide +kernel

/-- R187: READING with V_raw 5600, t 10000, rho_m 1480 and the flush flag, byte by byte. -/
theorem test_parse_reading : parseRequest 0x10 [0xE0, 0x15, 0x10, 0x27, 0xC8, 0x05, 0x01] =
    some (.reading 5600#16 10000#16 1480#16 true false) := by decide +kernel

/-- R187: SPAN_OPEN of span 2 with c_fill 2000. -/
theorem test_parse_span_open : parseRequest 0x20 [0x02, 0xD0, 0x07] = some (.spanOpen 2 2000#16) := by decide +kernel

/-- R187: RESOLVE_ANSWER of tag 31 with 100 000 kg. -/
theorem test_parse_resolve_answer : parseRequest 0x11 [0x1F, 0xA0, 0x86, 0x01, 0x00] =
    some (.resolveAnswer 31 100000#32) := by decide +kernel

/-- R186, R187: STATION_IN has an empty payload, so its frame is six bytes long less one: SYNC, LEN 1, KIND 2 and the check. -/
theorem test_station_in_frame : (Request.frame .stationIn).take 3 = [0xC5, 0x01, 0x02] ∧
    (Request.frame .stationIn).length = 5 := by decide +kernel

/-- The opcode table gives no row any bits. -/
theorem test_no_word_decodes : decodeTableWord 8 0 = none := rfl

/-! The line (examples of chapter 1): a 600 mm segment of 8000 m, and one of 560 mm and 6500 m. -/

theorem test_area : areaOf 600 = 282744 ∧ areaOf 560 = 246301 := by decide +kernel

theorem test_fill_volume : vSegOf 282744 8000 = 2261952 ∧ vSegOf 246301 6500 = 1600957 := by decide +kernel

/-- The prime parcel of a slurry-filled span: 1 244 074 kg. -/
theorem test_prime_mass : massOf 2261952 2000 2750 = 1244074 := by decide +kernel

/-! One reading (the worked example of chapter 2). -/

def bankOne : Bank := ⟨1000, 2750, 450, 15, 10120, .refer⟩

def sample : Reading := ⟨0, 5600, 10000, 1480, false, false, 1, .queued⟩

theorem test_conversion : convert bankOne none sample =
    .ready ⟨5667, 10000, .slurry, some 2742, Flags.none⟩ 4273 := by decide +kernel

theorem test_last_good : lastGoodAfter bankOne none sample = some ⟨2742, 2750⟩ := by decide +kernel

/-- The velocity of that reading against 282 744 mm²: 2004 mm/s. -/
theorem test_velocity : velocity 5667 282744 10000 = 2004 := by decide +kernel

/-! Evidence and verdicts (tables of chapter 5). -/

theorem test_evidence : moveEvidence 0 false = 0 ∧ moveEvidence 254 true = 255 ∧ moveEvidence 255 true = 255 ∧
    moveEvidence 255 false = 254 := by decide

/-- Deposit hysteresis, update 7 of the run: e_dep 3, N_s 3, N_c 5, held DEPOSIT by the previous verdict. -/
theorem test_hysteresis : ({ Span.blank with verdict := .deposit, eDep := 3 } : Span).findingBy ⟨0, 0, 0, 0, 0, 3, 5⟩ =
    .deposit ∧ ({ Span.blank with eDep := 3 } : Span).findingBy ⟨0, 0, 0, 0, 0, 3, 5⟩ = .depositSuspect := by decide

/-! Watch counters (the run of chapter 7: threshold 5000). -/

def onsets : Watch := { Watch.free with owner := some 0, source := .updateExcess, mode := .onsets, threshold := 5000 }

theorem test_onsets : (([3000, 5000, 6200, 4900, -200, 5400] : List Int).foldl Watch.take onsets).value = 2 := by
  decide +kernel

theorem test_watch_wraps : ({ Watch.free with value := 2 ^ 47 - 1 } : Watch).take 1 =
    { Watch.free with value := -2 ^ 47, overflow := true } := by decide +kernel

/-! Small states. -/

def settings : Settings := ⟨10, 100, 1800, 100, 100, 10, 100, 1, 2⟩

def wire : SettingsWire := ⟨10, 100, 1800, 100, 100, 10, 100, 1, 2⟩

def bank : Bank := ⟨1000, 2750, 450, 15, 10000, .refer⟩

def bankWire : BankWire := ⟨1000, 2750, 450, 15, 10000, 0⟩

def segment : Segment := ⟨settings, 7854, 79, none⟩

def station (v : ServiceState) : Station :=
  { Station.atReset with service := v, silence := some 90, banks := Quad.fill bank }

/-- A line of N = 3 at line time 100, with its spans derived and CLOSED, four free records, and every port hearing. -/
def line (a b c : ServiceState) : State :=
  State.rederiveAll { State.reset with
    config := .configured
    n := 3
    lineTime := 100
    tStale := 5
    tRes := 1
    tAgree := 10
    tTrip := 2
    scs := .high
    sdo := []
    stations := ⟨station a, station b, station c, Station.atReset⟩
    free := [7, 8, 9, 10]
    segments := Trio.fill segment
    ports := Quad.fill { Port.atReset with rate := some .r19200, rx := .hunt } }

def allIn : State := line .inService .inService .inService

def parcel (i v m : Nat) : Parcel := ⟨i, 0, 90, v, m, 0, Flags.none⟩

/-- Span j with a state, and one parcel of 79 L and 10 kg. -/
def held (s : State) (j : SpanId) (v : SpanState) (i : Nat) : State :=
  (s.setSpan j { s.span j with state := v, q := 79, s := 10 }).setQueue j [parcel i 79 10]

def reading (stage : Stage) : Reading := ⟨0, 50, 10000, 1200, false, false, 0, stage⟩

def result : Conversion := ⟨50, 10000, .slurry, some 1142, Flags.none⟩

def outOfRange : Conversion := ⟨50, 10000, .low, none, Flags.none⟩

/-- A station's queue replaced. -/
def queued (s : State) (st : StationId) (q : List Reading) (e : Option LineTime) : State :=
  s.setStation st { s.station st with queue := q, resolve := e }

def pendingOne : State := allIn.setSegment .one { segment with proposal := some ⟨0, settings, 100⟩ }

def nextState (o : Host.Outcome State Fault Refusal) : State :=
  match o with
  | .next t => t
  | _ => State.reset

/-! One step of each command, on those states. -/

def after (c : Instr) (s : State) : State := nextState (exec c s)

/-- The result code of the reply a port's buffer holds last. -/
def answer (p : PortId) (c : Instr) (s : State) : Option Result := ((after c s).port p).replies.getLast?.map Reply.result

def outLine : State := line .inService .out .inService

theorem test_reset : (after .reset { allIn with free := [] }).config = .loading := by decide +kernel

theorem test_image_refused : (after (.imageReadComplete (List.replicate 249 255)) State.reset).config = .unconfigured := by
  decide +kernel

/-- R181: an absent memory is refused, whatever SDI presents. -/
theorem test_image_absent : (after (.imageReadComplete []) State.reset).config = .unconfigured := by decide +kernel

theorem test_tick_wraps : (after .lineTimeTick { allIn with lineTime := 0xFFFFFFFF }).lineTime = 0 := by decide +kernel

/-- R6, R17: the tail falls silent, becomes STALE and suspends its OPEN span. -/
theorem test_silence_expiry : ((after (.silenceExpiry 2) (held allIn .two .opened 3)).station 2).service = .stale ∧
    ((after (.silenceExpiry 2) (held allIn .two .opened 3)).span .two).state = .suspended := by decide +kernel

/-- R41: with no pair held, the fraction and mass are 0 and the flags ESTIMATED and WATER. -/
theorem test_resolve_expiry : ((after (.resolveExpiry 0) (queued allIn 0 [reading (.awaiting outOfRange)] (some 100))).station
    0).queue = [reading (.ready { outOfRange with
      cBp := some 0, flags := { Flags.none with estimated := true, water := true } } 0)] := by decide +kernel

theorem test_agreement_expiry : ((after (.agreementExpiry .one) pendingOne).port 0).routine =
    [⟨.settings .one .expired, 100⟩] ∧ ((after (.agreementExpiry .one) pendingOne).segment .one).proposal = none := by
  decide +kernel

theorem test_hold_expiry : ((after (.holdExpiry .one) (allIn.setSpan .one { allIn.span .one with hold := some 100 })).span
    .one).hold = none := by decide +kernel

/-- R106: an interior station touches both spans it ends. -/
theorem test_trip : ((after (.tripFallingEdge 1) allIn).span .one).hold = some 102 ∧
    ((after (.tripFallingEdge 1) allIn).span .two).hold = some 102 := by decide +kernel

theorem test_trip_head : ((after (.tripFallingEdge 0) allIn).span .two).hold = none := by decide +kernel

theorem test_trip_release : ((after (.tripRelease 1) (after (.tripFallingEdge 1) allIn)).port 1).trip = .high := by
  decide +kernel

theorem test_gap : ((after (.frameGap 0) (allIn.setRx 0 .length)).port 0).rx = .hunt := by decide +kernel

theorem test_framing_error : ((after (.framingError 0) (allIn.setRx 0 .awaitMark)).port 0).rx = .awaitMark := by
  decide +kernel

theorem test_discard : ((after (.frameDiscard 0) (allIn.setRx 0 (.check [1] 0 none))).port 0).rx = .hunt := by decide +kernel

def four : List Reply := List.replicate 4 ⟨0x01, .empty, .none⟩

theorem test_unanswered : ((after (.frameUnanswered 0) (allIn.setPort 0 { allIn.port 0 with
    rx := .length, replies := four })).port 0).replies = four := by decide +kernel

theorem test_unknown_kind : answer 0 (.unknownKind 0 0x7F) allIn = some .unknownKind := by decide +kernel

/-- R43, R171: a restart drops the readings and stops the resolve timer. -/
theorem test_restart : ((after (.portRestart 0) (queued allIn 0 [reading (.awaiting outOfRange)] (some 101))).station
    0).queue = [] ∧ ((after (.portRestart 0) allIn).port 0).rx = .awaitMark := by decide +kernel

theorem test_return_to_mark : ((after (.returnToMark 0) (allIn.setRx 0 .awaitMark)).port 0).rx = .hunt := by decide +kernel

theorem test_reply_sent : ((after (.replySent 0) (allIn.setPort 0 { allIn.port 0 with replies := four })).port
    0).replies.length = 3 := by decide +kernel

theorem test_status : answer 3 (.status 3) allIn = some .done := by decide +kernel

/-- R167, R169: any other request at an unused port is answered NO_STATION. -/
theorem test_unused_port : answer 3 (.stationIn 3) allIn = some .noStation := by decide +kernel

/-- R21: an interior station's return splits the CLOSED span 2. -/
theorem test_station_in : ((after (.stationIn 1) outLine).station 1).silence = some 105 ∧
    ((after (.stationIn 1) outLine).span .one).line.isSome = true := by decide +kernel

/-- R20: an interior station's leaving merges two OPEN spans, the upstream queue behind the downstream one. -/
theorem test_station_out : indicesOf ((after (.stationOut 1) (held (held allIn .one .opened 3) .two .opened 4)).queue .two) =
    [4, 3] ∧ ((after (.stationOut 1) (held (held allIn .one .opened 3) .two .opened 4)).span .two).o = 0 := by
  decide +kernel

/-- R39: a LOW reading in REFER mode awaits, its timer at 100 + T_res. -/
theorem test_reading : ((after (.reading 0 50 10000 900 false false) allIn).station 0).resolve = some 101 := by decide +kernel

/-- R40: 50 L of solids of 2750 kg/m³ weigh 137 kg, the cap on an answer. -/
theorem test_resolve_answer : ((after (.resolveAnswer 0 0 500) (queued allIn 0 [reading (.awaiting outOfRange)]
    (some 101))).station 0).queue =
      [reading (.ready { outOfRange with flags := { Flags.none with referred := true } } 137)] := by decide +kernel

theorem test_bank_write : answer 0 (.bankWrite 0 4 bankWire) allIn = some .outOfRange ∧
    answer 0 (.bankWrite 0 3 bankWire) allIn = some .done := by decide +kernel

theorem test_bank_select : ((after (.bankSelect 0 2) allIn).station 0).active = 2 := by decide +kernel

theorem test_bank_read : answer 0 (.bankRead 0 3 0) allIn = some .noStation := by decide +kernel

/-- R63, R90: the tail's 50 L take 50 of the 79 L and floor(10 × 50 / 79) = 6 kg. -/
theorem test_grant_tail : (after .grant (queued (held allIn .two .opened 3) 2 [reading (.ready result 8)] none)).queue .two =
    [parcel 3 29 4] := by decide +kernel

/-- R44: after port 1 the search starts at port 2. -/
theorem test_grant_rotation : (after .grant { queued (queued allIn 0 [reading (.ready result 8)] none) 2
    [reading (.ready result 8)] none with lastGranted := some 1 }).lastGranted = some 2 := by decide +kernel

/-- R14: 79 L at c_fill 2000 and 2750 kg/m³ hold 43 kg. -/
theorem test_span_open : ((after (.spanOpen 0 1 2000) allIn).span .one).s = 43 ∧
    (after (.spanOpen 0 1 2000) allIn).free = [8, 9, 10] := by decide +kernel

theorem test_span_close : (after (.spanClose 1 1) (held allIn .one .opened 3)).free = [7, 8, 9, 10, 3] := by decide +kernel

theorem test_span_read : answer 0 (.spanRead 0 3) allIn = some .noSpan := by decide +kernel

theorem test_parcel_list : answer 0 (.parcelList 0 1 0 13) allIn = some .outOfRange := by decide +kernel

theorem test_verdict_clear : ((after (.verdictClear 1 1) (allIn.setSpan .one { allIn.span .one with
    latch := true, verdict := .leak, eLeak := 9 })).span .one).verdict = .blind := by decide +kernel

theorem test_propose_conflict : answer 1 (.settingsPropose 1 1 { wire with nC := 3 }) pendingOne = some .conflict := by
  decide +kernel

theorem test_agree : answer 1 (.settingsAgree 1 1 wire) pendingOne = some .done ∧
    answer 0 (.settingsAgree 0 1 wire) pendingOne = some .notParty := by decide +kernel

theorem test_withdraw : ((after (.settingsWithdraw 0 1) pendingOne).port 1).routine =
    [⟨.settings .one .withdrawn, 100⟩] := by decide +kernel

theorem test_settings_read : answer 0 (.settingsRead 0 3) allIn = some .outOfRange := by decide +kernel

theorem test_watch_claim : ((after (.watchClaim 2) allIn).watch 0).owner = some 2 := by decide +kernel

def owned : State := allIn.setWatch 0 { Watch.free with owner := some 2 }

theorem test_watch_set : ((after (.watchSet 2 0 ⟨9, 3, 0x21, 3, 0xFFFFFFFF, 2, 7⟩) owned).watch 0) =
    ⟨some 2, .resolves, some .three, 1, 2, .onsets, -1, 7, false, false, true, false, false⟩ := by decide +kernel

theorem test_watch_read : answer 0 (.watchRead 0 8) allIn = some .outOfRange := by decide +kernel

theorem test_watch_release : answer 0 (.watchRelease 0 0) owned = some .notOwner ∧
    ((after (.watchRelease 2 0) owned).watch 0).owner = none := by decide +kernel

theorem test_watch_freeze : ((after (.watchFreeze 2) owned).watch 0).frozen = true := by decide +kernel

theorem test_watch_thaw : ((after (.watchThaw 2) (after (.watchFreeze 2) owned)).watch 0).frozen = false := by decide +kernel

theorem test_notice_get : answer 0 (.noticeGet 0) allIn = some .empty := by decide +kernel

theorem test_byte : ((after (.byteReceived 0 0xC5) allIn).port 0).rx = .length := by decide +kernel

/-! Witnesses: for each statement of Certificates/Slice0/Obligations.lean, states and operands that meet its hypotheses. -/

theorem takes_of {s : State} {p : PortId} (a : s.config = .configured) (b : s.isConfigured p = true)
    (c : (s.port p).rx.listening = true) (d : s.bufferFull p = false) : s.takes p := ⟨a, b, c, d⟩

theorem topology_of {s : State} (a : s.n ≤ 4) (b : (s.span .one).line = s.lineOf .one)
    (c : (s.span .two).line = s.lineOf .two) (d : (s.span .three).line = s.lineOf .three) : s.topologyHolds :=
  ⟨a, fun j => by cases j <;> assumption⟩

theorem closedIsEmpty_of {s : State} (a : (s.span .one).state = .closed → s.queue .one = [])
    (b : (s.span .two).state = .closed → s.queue .two = []) (c : (s.span .three).state = .closed → s.queue .three = []) :
    s.closedIsEmpty := fun j => by cases j <;> assumption

theorem absentIsClosed_of {s : State} (a : (s.span .one).line = none → (s.span .one).state = .closed)
    (b : (s.span .two).line = none → (s.span .two).state = .closed)
    (c : (s.span .three).line = none → (s.span .three).state = .closed) : s.absentIsClosed :=
  fun j => by cases j <;> assumption

theorem allIn_takes : allIn.takes 0 ∧ allIn.takes 1 ∧ allIn.takes 2 :=
  ⟨takes_of (by decide +kernel) (by decide +kernel) (by decide +kernel) (by decide +kernel),
    takes_of (by decide +kernel) (by decide +kernel) (by decide +kernel) (by decide +kernel),
    takes_of (by decide +kernel) (by decide +kernel) (by decide +kernel) (by decide +kernel)⟩

/-- The four-station line of the example under R129. -/
def fourLine (b : ServiceState) : State :=
  State.rederiveAll { line .inService .out b with
    n := 4
    segments := ⟨{ segment with settings := ⟨10, 100, 1800, 40000, 30000, 2000, 100, 6, 12⟩ },
      { segment with settings := ⟨10, 100, 2100, 25000, 30000, 1500, 150, 4, 8⟩ },
      { segment with settings := ⟨10, 100, 1900, 35000, 20000, 2500, 80, 5, 10⟩ }⟩ }

/-- The thresholds that the example under R129 states, before station 2 returns and after. -/
theorem test_thresholds :
    ((fourLine .out).span .three).line.map SpanLine.thr = some ⟨100000, 80000, 6000, 2100, 80, 5, 10⟩ ∧
    ((fourLine .inService).span .two).line.map SpanLine.thr = some ⟨65000, 60000, 3500, 2100, 150, 4, 8⟩ ∧
    ((fourLine .inService).span .three).line.map SpanLine.thr = some ⟨35000, 20000, 2500, 1900, 80, 5, 10⟩ := by
  decide +kernel

theorem allIn_topology : allIn.topologyHolds :=
  topology_of (by decide +kernel) (by decide +kernel) (by decide +kernel) (by decide +kernel)

/-- A line of which one OPEN span ends at the head. -/
def headOpen : State := held allIn .one .opened 3

def bothOpen : State := held headOpen .two .opened 4

theorem headOpen_takes : headOpen.takes 0 ∧ headOpen.takes 1 :=
  ⟨takes_of (by decide +kernel) (by decide +kernel) (by decide +kernel) (by decide +kernel),
    takes_of (by decide +kernel) (by decide +kernel) (by decide +kernel) (by decide +kernel)⟩

theorem headOpen_topology : headOpen.topologyHolds :=
  topology_of (by decide +kernel) (by decide +kernel) (by decide +kernel) (by decide +kernel)

theorem witness_StepRunsFrontCommand :
    ({ allIn with pending := [.grant, .lineTimeTick] } : State).pending = .grant :: [.lineTimeTick] ∧ allIn.pending = [] := by
  decide +kernel

/-- An image of N = 3 with every field in range and its check (R190). -/
def imageBody : List Byte :=
  imageIdentifier ++ [1, 3, 3, 3, 3, 0, 0, 10, 0, 0, 20] ++ wire.bytes ++ wire.bytes ++ wire.bytes ++
    (List.replicate 16 bankWire.bytes).flatten ++ [0, 1, 2, 3]

def image : List Byte := imageBody ++ leBytes 4 (crc32 imageBody).toNat

set_option maxRecDepth 100000 in
theorem witness_AcceptedImageConfigures :
    State.reset.config = .loading ∧ image.length = imageLength ∧ imageAccepted image = true := by decide +kernel

set_option maxRecDepth 100000 in
theorem test_image_accepted : (after (.imageReadComplete image) State.reset).n = 3 ∧
    ((after (.imageReadComplete image) State.reset).span .two).line.map SpanLine.vSpan = some 158 := by decide +kernel

theorem witness_RefusedImageUnconfigures :
    State.reset.config = .loading ∧ imageAccepted (imageRead (List.replicate 249 255)) = false ∧
    image.length = imageLength := by decide +kernel

theorem witness_TickMovesLineTime : allIn.config = .configured ∧
    ({ allIn with lineTime := 0xFFFFFFFF } : State).lineTime.toNat = 4294967295 ∧ State.reset.config ≠ .configured := by
  decide +kernel

/-- R2: a timer of 600 s started before line time wraps is not due at 599 s and is due at 600 s. -/
theorem test_timer_across_the_wrap : timerDue (0xFFFFFF00#32 + 599) (some (0xFFFFFF00#32 + 600)) = false ∧
    timerDue (0xFFFFFF00#32 + 600) (some (0xFFFFFF00#32 + 600)) = true ∧ timerDue 0 none = false := by decide +kernel

theorem witness_EventsOutOfPlaceChangeNothing : allIn.config ≠ .loading ∧
    timerDue ({ allIn with lineTime := 89 } : State).lineTime (({ allIn with lineTime := 89 } : State).station 0).silence = false ∧
    outLine.inService 1 = false ∧ timerDue allIn.lineTime (allIn.station 0).resolve = false ∧
    (allIn.segment .one).proposal = none ∧ reached ({ pendingOne with lineTime := 99 } : State).lineTime 100 = false ∧
    timerDue allIn.lineTime (allIn.span .one).hold = false ∧ State.reset.config ≠ .configured ∧
    (allIn.port 0).trip = .high ∧ ((after (.tripFallingEdge 0) allIn).port 0).trip = .low ∧ State.reset.config = .loading ∧
    ((allIn.setRx 0 .awaitMark).port 0).rx = .awaitMark ∧ (allIn.port 0).rx ≠ .awaitMark ∧
    ∀ q, (allIn.station q).queue = [] := by decide +kernel

theorem outLine_takes : outLine.takes 1 :=
  takes_of (by decide +kernel) (by decide +kernel) (by decide +kernel) (by decide +kernel)

theorem outLine_topology : outLine.topologyHolds :=
  topology_of (by decide +kernel) (by decide +kernel) (by decide +kernel) (by decide +kernel)

theorem witness_StationInTakesIntoService : (allIn.takes 0 ∧ allIn.inService 0 = true) ∧
    (outLine.takes 1 ∧ outLine.inService 1 = false) :=
  ⟨⟨allIn_takes.1, by decide +kernel⟩, outLine_takes, by decide +kernel⟩

theorem witness_StationLeavesService : (outLine.takes 1 ∧ (outLine.station 1).service = .out) ∧
    (allIn.takes 0 ∧ (allIn.station 0).service ≠ .out) ∧
    (allIn.inService 0 = true ∧ timerDue allIn.lineTime (allIn.station 0).silence = true) :=
  ⟨⟨outLine_takes, by decide +kernel⟩, ⟨allIn_takes.1, by decide +kernel⟩, by decide +kernel⟩

/-- By STATION_OUT and by the silence expiry; with the OPEN span of the head, and with span 2, which is not OPEN. -/
theorem witness_LineEndLeavingSuspends : headOpen.leavesBy (.stationOut 0) 0 ∧ headOpen.leavesBy (.silenceExpiry 0) 0 ∧
    headOpen.topologyHolds ∧ 2 ≤ headOpen.n ∧ ((0 : StationId).val = 0 ∨ (0 : StationId).val + 1 = headOpen.n) ∧
    (∃ l, (headOpen.span .one).line = some l ∧ 0 = l.upstream ∧ (headOpen.span .one).state = .opened) ∧
    ∃ l, (headOpen.span .two).line = some l ∧ (headOpen.span .two).state ≠ .opened :=
  ⟨⟨by decide +kernel, .inl ⟨rfl, headOpen_takes.1⟩⟩, ⟨by decide +kernel, .inr ⟨rfl, by decide +kernel⟩⟩,
    headOpen_topology, by decide +kernel, by decide +kernel, ⟨_, rfl, by decide +kernel, by decide +kernel⟩,
    _, rfl, by decide +kernel⟩

/-- The head of a line is out, and its span SUSPENDED. -/
def headOut : State := held (line .out .inService .inService) .one .suspended 3

theorem headOut_takes : headOut.takes 0 :=
  takes_of (by decide +kernel) (by decide +kernel) (by decide +kernel) (by decide +kernel)

theorem headOut_topology : headOut.topologyHolds :=
  topology_of (by decide +kernel) (by decide +kernel) (by decide +kernel) (by decide +kernel)

theorem witness_LineEndReturningResumes : headOut.returnsBy (.stationIn 0) 0 ∧ headOut.topologyHolds ∧ 2 ≤ headOut.n ∧
    ((0 : StationId).val = 0 ∨ (0 : StationId).val + 1 = headOut.n) ∧ ∃ l, (headOut.span .one).line = some l ∧ 0 = l.upstream ∧
      (headOut.span .one).state = .suspended ∧
      ∀ q, q = l.upstream ∨ q = SegId.downStation .one → q ≠ 0 → headOut.inService q = true :=
  ⟨⟨by decide +kernel, rfl, headOut_takes⟩, headOut_topology, by decide +kernel, by decide +kernel, _, rfl,
    by decide +kernel, by decide +kernel, by decide +kernel⟩

theorem bothOpen_topology : bothOpen.topologyHolds :=
  topology_of (by decide +kernel) (by decide +kernel) (by decide +kernel) (by decide +kernel)

theorem bothOpen_leaves : bothOpen.leavesBy (.stationOut 1) 1 :=
  ⟨by decide +kernel, .inl ⟨rfl, takes_of (by decide +kernel) (by decide +kernel) (by decide +kernel) (by decide +kernel)⟩⟩

theorem witness_MergeOfHeldParts : ∃ lk lj, bothOpen.leavesBy (.stationOut 1) 1 ∧ bothOpen.topologyHolds ∧
    (bothOpen.span .one).line = some lk ∧ (bothOpen.span .two).line = some lj ∧ lj.upstream = 1 ∧
    (0 < (1 : StationId).val ∧ (1 : StationId).val + 1 < bothOpen.n ∧ SegId.downStation .one = 1 ∧
      (bothOpen.span .one).state ≠ .closed ∧ (bothOpen.span .two).state ≠ .closed) :=
  ⟨_, _, bothOpen_leaves, bothOpen_topology, rfl, rfl, by decide +kernel, by decide +kernel⟩

/-- Both spans OPEN, the downstream one NORMAL. -/
def bothNormal : State := bothOpen.setSpan .two { bothOpen.span .two with verdict := .normal }

/-- The bodies of the ROUTINE part of a port, oldest first. -/
def routineOf (s : State) (p : PortId) : List NoticeBody := (s.port p).routine.map Notice.body

/-- R7, R20, R126: STATION, then SPAN, then VERDICT; the station that left, no end of the merged span, is told of none. -/
theorem test_merge_notices : routineOf (after (.stationOut 1) bothNormal) 0 =
      [.station 1 .out, .span .two .merged .opened, .verdict .two .normal .blind] ∧
    routineOf (after (.stationOut 1) bothNormal) 1 = [] := by decide +kernel

/-- R15, R126: at a close the VERDICT notice comes before the SPAN notice. -/
theorem test_close_notices : routineOf (after (.spanClose 1 2) bothNormal) 1 =
    [.verdict .two .normal .blind, .span .two .closed .closed] := by decide +kernel

theorem witness_MergeWithClosedPart : ∃ lk lj, headOpen.leavesBy (.stationOut 1) 1 ∧ headOpen.topologyHolds ∧
    headOpen.closedIsEmpty ∧ (headOpen.span .one).line = some lk ∧ (headOpen.span .two).line = some lj ∧ lj.upstream = 1 ∧
    (0 < (1 : StationId).val ∧ (1 : StationId).val + 1 < headOpen.n ∧ SegId.downStation .one = 1 ∧
      (headOpen.span .two).state = .closed) :=
  ⟨_, _, ⟨by decide +kernel, .inl ⟨rfl, headOpen_takes.2⟩⟩, headOpen_topology,
    closedIsEmpty_of (by decide +kernel) (by decide +kernel) (by decide +kernel), rfl, rfl, by decide +kernel,
    by decide +kernel⟩

theorem witness_SplitOfClosedSpan : ∃ l, outLine.returnsBy (.stationIn 1) 1 ∧ outLine.topologyHolds ∧
    (outLine.span .two).line = some l ∧ (0 < (1 : StationId).val ∧ (1 : StationId).val + 1 < outLine.n ∧
      SegId.downStation .one = 1 ∧ l.upstream.val < SegId.num .one ∧ SegId.num .one ≤ SegId.num .two ∧ (outLine.span .two).state = .closed) :=
  ⟨_, ⟨by decide +kernel, rfl, outLine_takes⟩, outLine_topology, rfl, by decide +kernel⟩

/-- Station 1 is out, and span 2 over both segments is OPEN. -/
def longOpen : State := held outLine .two .opened 3

/-- The same with a parcel of 200 L, which the new fill volume of 79 L cuts, and with no record free. -/
def straddled (free : List Nat) : State := (longOpen.setQueue .two [parcel 3 200 10, parcel 4 1 0]).setFree free

theorem longOpen_topology : longOpen.topologyHolds :=
  topology_of (by decide +kernel) (by decide +kernel) (by decide +kernel) (by decide +kernel)

theorem witness_SplitOfHeldSpan : ∃ l, longOpen.returnsBy (.stationIn 1) 1 ∧ longOpen.topologyHolds ∧
    longOpen.absentIsClosed ∧ longOpen.closedIsEmpty ∧ (longOpen.span .two).line = some l ∧
    (0 < (1 : StationId).val ∧ (1 : StationId).val + 1 < longOpen.n ∧ SegId.downStation .one = 1 ∧
      l.upstream.val < SegId.num .one ∧ SegId.num .one ≤ SegId.num .two ∧ (longOpen.span .two).state ≠ .closed) :=
  ⟨_, ⟨by decide +kernel, rfl,
      takes_of (by decide +kernel) (by decide +kernel) (by decide +kernel) (by decide +kernel)⟩,
    longOpen_topology, absentIsClosed_of (by decide +kernel) (by decide +kernel) (by decide +kernel),
    closedIsEmpty_of (by decide +kernel) (by decide +kernel) (by decide +kernel), rfl, by decide +kernel⟩

/-- With a parcel that straddles the cut and a record free for its upstream part. -/
theorem witness_SplitOfHeldSpan_straddling : ∃ l, (straddled [7, 8]).returnsBy (.stationIn 1) 1 ∧
    (straddled [7, 8]).topologyHolds ∧ (straddled [7, 8]).absentIsClosed ∧ (straddled [7, 8]).closedIsEmpty ∧
    ((straddled [7, 8]).span .two).line = some l ∧
    (l.upstream.val < SegId.num .one ∧ SegId.num .one ≤ SegId.num .two ∧ ((straddled [7, 8]).span .two).state ≠ .closed) ∧
    (cutWalk 79 ((straddled [7, 8]).queue .two)).2.1 = some (parcel 3 200 10, 79) :=
  ⟨_, ⟨by decide +kernel, rfl, takes_of (by decide +kernel) (by decide +kernel) (by decide +kernel) (by decide +kernel)⟩,
    topology_of (by decide +kernel) (by decide +kernel) (by decide +kernel) (by decide +kernel),
    absentIsClosed_of (by decide +kernel) (by decide +kernel) (by decide +kernel),
    closedIsEmpty_of (by decide +kernel) (by decide +kernel) (by decide +kernel), rfl, by decide +kernel, by decide +kernel⟩

/-- The same without a free record: the split reclaims from that very queue. -/
theorem witness_SplitOfHeldSpan_reclaiming : ∃ l, (straddled []).returnsBy (.stationIn 1) 1 ∧
    (straddled []).topologyHolds ∧ (straddled []).absentIsClosed ∧ (straddled []).closedIsEmpty ∧
    ((straddled []).span .two).line = some l ∧
    (l.upstream.val < SegId.num .one ∧ SegId.num .one ≤ SegId.num .two ∧ ((straddled []).span .two).state ≠ .closed) ∧ (straddled []).free = [] :=
  ⟨_, ⟨by decide +kernel, rfl, takes_of (by decide +kernel) (by decide +kernel) (by decide +kernel) (by decide +kernel)⟩,
    topology_of (by decide +kernel) (by decide +kernel) (by decide +kernel) (by decide +kernel),
    absentIsClosed_of (by decide +kernel) (by decide +kernel) (by decide +kernel),
    closedIsEmpty_of (by decide +kernel) (by decide +kernel) (by decide +kernel), rfl, by decide +kernel, by decide +kernel⟩

/-- R61, R71: the reclaim joins the split span's two parcels, and the cut is made in the joined record. -/
theorem test_split_reclaims : (after (.stationIn 1) (straddled [])).queue .two =
      [{ parcel 3 79 3 with flags := { Flags.none with coalesced := true } }] ∧
    (after (.stationIn 1) (straddled [])).queue .one =
      [{ parcel 4 122 7 with flags := { Flags.none with coalesced := true } }] := by decide +kernel

theorem witness_CutSharesTheStraddlingParcel :
    cutWalk 30 [parcel 1 20 5, parcel 2 79 10, parcel 3 1 0] =
      ([parcel 1 20 5], some (parcel 2 79 10, 10), [parcel 3 1 0]) ∧
    cutWalk 20 [parcel 1 20 5, parcel 2 79 10] = ([parcel 1 20 5], none, [parcel 2 79 10]) ∧
    cutWalk 30 [parcel 1 20 5] = ([parcel 1 20 5], none, []) := by
  decide +kernel

def readingOut : State := line .out .inService .inService

theorem readingOut_takes : readingOut.takes 0 :=
  takes_of (by decide +kernel) (by decide +kernel) (by decide +kernel) (by decide +kernel)

theorem queued_takes {q : List Reading} {e : Option LineTime} : (queued allIn 0 q e).takes 0 :=
  have h : allIn.takes 0 := allIn_takes.1
  h

theorem witness_ReadingRefusedOrQueued : (readingOut.takes 0 ∧ readingOut.inService 0 = false) ∧
    ((queued allIn 0 (List.replicate 8 (reading .queued)) none).takes 0 ∧
      (queued allIn 0 (List.replicate 8 (reading .queued)) none).inService 0 = true ∧
      8 ≤ ((queued allIn 0 (List.replicate 8 (reading .queued)) none).station 0).queue.length) ∧
    ((queued allIn 0 (List.replicate 7 (reading .queued)) none).takes 0 ∧
      (queued allIn 0 (List.replicate 7 (reading .queued)) none).inService 0 = true ∧
      ((queued allIn 0 (List.replicate 7 (reading .queued)) none).station 0).queue.length < 8 ∧
      ((queued allIn 0 (List.replicate 7 (reading .queued)) none).station 0).queue ≠ []) :=
  ⟨⟨readingOut_takes, by decide +kernel⟩, ⟨queued_takes, by decide +kernel⟩, queued_takes, by decide +kernel⟩

theorem witness_ReadingAtHeadConverts : allIn.takes 0 ∧ (allIn.inService 0 = true ∧ (allIn.station 0).queue = [] ∧
    convert ((allIn.station 0).banks.get 0) (allIn.station 0).lastGood ⟨0, 50, 10000, 1200, false, false, 0, .queued⟩ =
      .ready result 16) :=
  ⟨allIn_takes.1, by decide +kernel⟩

theorem witness_OutOfRangeReadingRaisesResolve : allIn.takes 0 ∧ (allIn.inService 0 = true ∧ (allIn.station 0).queue = [] ∧
    convert ((allIn.station 0).banks.get 0) (allIn.station 0).lastGood ⟨0, 50, 10000, 900, false, false, 0, .queued⟩ =
      .awaiting outOfRange) :=
  ⟨allIn_takes.1, by decide +kernel⟩

theorem witness_IdleReadingConverts : (0 * bank.kQ + 5000) / 10000 = 0 := by decide +kernel

theorem witness_ClassIsTheFirstTest : (0 < 50 ∧ bank.rhoW + 500 ≤ bank.rhoS ∧ bank.deltaW ≤ bank.rhoW) ∧
    984 + bank.deltaW < bank.rhoW ∧ (bank.rhoW ≤ 985 + bank.deltaW ∧ 1000 ≤ bank.rhoW) ∧
    (bank.rhoW < 1787 ∧ (1787 - bank.rhoW) * 10000 / (bank.rhoS - bank.rhoW) ≤ bank.cMax * 10) ∧
    (bank.rhoW < 1788 ∧ bank.cMax * 10 < (1788 - bank.rhoW) * 10000 / (bank.rhoS - bank.rhoW)) := by decide +kernel

theorem witness_ConversionFollowsClass : classify bank { reading .queued with flush := true } 50 = .flush ∧
    classify bank { reading .queued with rhoM := 985 } 50 = .water ∧ classify bank (reading .queued) 50 = .slurry ∧
    classify bank { reading .queued with rhoM := 984 } 50 = .low ∧
    classify bank { reading .queued with rhoM := 1788 } 50 = .high ∧
    classify bank { reading .queued with fault := true } 50 = .fault ∧ bank.mode = .refer ∧
    ({ bank with mode := .limit } : Bank).mode = .limit := by decide +kernel

def awaiting : State := queued allIn 0 [reading (.awaiting outOfRange), reading .queued] (some 100)

theorem witness_ResolveEnds : (awaiting.takes 0 ∧ (awaiting.station 0).queue = reading (.awaiting outOfRange) :: [reading .queued] ∧
      (reading (.awaiting outOfRange)).tag = 0) ∧
    (allIn.takes 0 ∧ (allIn.station 0).queue = []) ∧ timerDue awaiting.lineTime (awaiting.station 0).resolve = true :=
  ⟨⟨queued_takes, by decide +kernel⟩, ⟨allIn_takes.1, by decide +kernel⟩, by decide +kernel⟩

theorem witness_BankRequests : allIn.takes 0 ∧ allIn.n ≤ 4 := ⟨allIn_takes.1, by decide +kernel⟩

/-- A reading waits READY at a station. -/
def readyAt (s : State) (st : StationId) : State := queued s st [reading (.ready result 8), reading .queued] none

/-- R94: a balance update's VERDICT notice comes before the WATCH notice of its samples. -/
theorem test_update_notices : routineOf (after .grant ((readyAt bothNormal 2).setWatch 0
      { Watch.free with owner := some 2, value := 2 ^ 47 - 1, notify := true })) 2 =
    [.verdict .two .normal .blind, .watch 0 (-2 ^ 47)] := by decide +kernel

theorem witness_GrantFollowsRotation : (readyAt allIn 2).grantsTo 2 (reading (.ready result 8)) result 8 ∧
    (readyAt outLine 1).grantsTo 1 (reading (.ready result 8)) result 8 ∧ (readyAt outLine 1).topologyHolds ∧
    (0 < (1 : StationId).val ∧ (1 : StationId).val + 1 < (readyAt outLine 1).n ∧ (readyAt outLine 1).inService 1 = false) ∧
    (Station.nextAwaits { (readyAt allIn 2).station 2 with
      queue := [reading (.ready result 8), { reading .queued with rhoM := 900 }] } { reading .queued with rhoM := 900 }
      outOfRange) :=
  ⟨grantsTo_iff.2 ⟨by decide +kernel, by decide +kernel⟩,
    grantsTo_iff.2 ⟨by decide +kernel, by decide +kernel⟩,
    topology_of (by decide +kernel) (by decide +kernel) (by decide +kernel) (by decide +kernel), by decide +kernel,
    by decide +kernel, by decide +kernel⟩

/-- An interior station between two OPEN spans, with the second full and no record free, so that its inflow reclaims. -/
def betweenOpen : State :=
  readyAt ((bothOpen.setFree []).setQueue .two [parcel 4 79 10, parcel 5 1 0]) 1

theorem witness_GrantFollowsRotation_interior : ∃ lj lk, betweenOpen.grantsTo 1 (reading (.ready result 8)) result 8 ∧
    betweenOpen.topologyHolds ∧ (betweenOpen.span .one).line = some lj ∧ (betweenOpen.span .two).line = some lk ∧
    lk.upstream = 1 ∧ (0 < (1 : StationId).val ∧ (1 : StationId).val + 1 < betweenOpen.n ∧
      betweenOpen.inService 1 = true ∧ SegId.downStation .one = 1 ∧ SegId.upStation .two = 1 ∧
      (betweenOpen.span .one).state = .opened ∧ (betweenOpen.span .two).state = .opened ∧ betweenOpen.free = []) :=
  ⟨_, _, grantsTo_iff.2 ⟨by decide +kernel, by decide +kernel⟩,
    topology_of (by decide +kernel) (by decide +kernel) (by decide +kernel) (by decide +kernel), rfl, rfl,
    by decide +kernel, by decide +kernel⟩

/-- R46, R61: span 1 is drained first, then span 2 reclaims its own head to take the inflow. -/
theorem test_grant_interior : (after .grant betweenOpen).queue .one = [parcel 3 29 4] ∧
    (after .grant betweenOpen).queue .two =
      [{ parcel 4 80 10 with flags := { Flags.none with coalesced := true } }, ⟨5, 1, 100, 50, 8, 0, Flags.none⟩] := by
  decide +kernel

/-- R94, R152: the samples of one update, seen by a counter of each source from R152's list. -/
theorem test_grant_samples : [WatchSource.exitAge, .exitSolids, .updateDeficit, .occupancy, .updates, .shortfall].map
    (fun x => ((after .grant ((readyAt (held allIn .two .opened 3) 2).setWatch 0
      { Watch.free with owner := some 0, source := x })).watch 0).value) = [10, 6, -2, 1, 1, 0] := by decide +kernel

def tailReady : State := readyAt (held allIn .two .opened 3) 2

theorem witness_TailGrantUpdatesSpan : ∃ l, tailReady.grantsTo 2 (reading (.ready result 8)) result 8 ∧
    tailReady.topologyHolds ∧ (tailReady.span .two).line = some l ∧
    ((2 : StationId).val + 1 = tailReady.n ∧ 2 ≤ tailReady.n ∧ SegId.downStation .two = 2 ∧
      (tailReady.span .two).state = .opened ∧ ((readyAt allIn 2).span .two).state ≠ .opened) :=
  ⟨_, grantsTo_iff.2 ⟨by decide +kernel, by decide +kernel⟩,
    topology_of (by decide +kernel) (by decide +kernel) (by decide +kernel) (by decide +kernel), rfl, by decide +kernel⟩

def headReady : State := readyAt headOpen 0

def idle : Conversion := ⟨0, 10000, .idle, some 0, Flags.none⟩

theorem witness_HeadGrantFillsSpan : ∃ l, headReady.grantsTo 0 (reading (.ready result 8)) result 8 ∧
    headReady.topologyHolds ∧ (headReady.span .one).line = some l ∧ l.upstream = 0 ∧
    ((headReady.span .one).state = .opened ∧ 0 < result.v ∧
      ((readyAt allIn 0).span .one).state ≠ .opened ∧ (reading (.ready idle 0)).stage = .ready idle 0 ∧ idle.v = 0) :=
  ⟨_, grantsTo_iff.2 ⟨by decide +kernel, by decide +kernel⟩,
    topology_of (by decide +kernel) (by decide +kernel) (by decide +kernel) (by decide +kernel), rfl, by decide +kernel,
    by decide +kernel⟩

theorem witness_DrainKeepsSlurry : (drainQueue 100 [parcel 1 79 10]).shortfall = 21 ∧
    (drainQueue 50 [parcel 1 79 10]).shortfall = 0 ∧
    (drainQueue 50 [parcel 1 79 10]).portions.map (fun x => x.whole) = [false] := by decide +kernel

def empty : State := (allIn.setFree []).setQueue .two [parcel 1 79 10, parcel 2 50 8, parcel 3 1 0]

/-- R63, R66: two parcels drained whole are reported head first with what each held, and then the part of the third. -/
theorem test_portions : (drainQueue 130 [parcel 1 79 10, { parcel 2 50 8 with origin := 1, bank := 3 }, parcel 3 4 9]).portions =
    [⟨true, 79, 10, 0, 90, 0, Flags.none⟩, ⟨true, 50, 8, 1, 90, 3, Flags.none⟩, ⟨false, 1, 2, 0, 90, 0, Flags.none⟩] := by
  decide +kernel

/-- R58: on a tie the queue of the higher span id is joined. -/
theorem test_reclaim_tie : (empty.setQueue .one (empty.queue .two)).fullest = .two := by decide +kernel

theorem witness_AllocationReclaims :
    allIn.free = 7 :: [8, 9, 10] ∧ empty.free = [] ∧ empty.queue empty.fullest = parcel 1 79 10 :: parcel 2 50 8 :: [parcel 3 1 0] := by decide +kernel

theorem witness_SpanOpenOpens : ∃ l u, allIn.takes 0 ∧ (allIn.span .one).line = some l ∧ 0 = l.upstream ∧
    allIn.allocate = (7, u) ∧
    (((1 : BitVec 8).toNat = SegId.num .one ∧ (allIn.span .one).state = .closed ∧ allIn.inService 0 = true ∧
      allIn.inService (SegId.downStation .one) = true ∧ (4500#16).toNat ≤ bank.cMax * 10 ∧
      bank = (allIn.station 0).banks.get (allIn.station 0).active) ∧ allIn.closedIsEmpty) :=
  ⟨_, _, allIn_takes.1, rfl, by decide +kernel, Prod.ext (by decide +kernel) rfl, by decide +kernel,
    closedIsEmpty_of (by decide +kernel) (by decide +kernel) (by decide +kernel)⟩

/-- Span 2 is OPEN with two parcels, and no record is free. -/
def exhausted : State := ((held allIn .two .opened 3).setQueue .two [parcel 3 40 5, parcel 4 39 5]).setFree []

/-- With no record free: the opening reclaims from span 2. -/
theorem witness_SpanOpenOpens_reclaiming : ∃ l u, exhausted.takes 0 ∧ (exhausted.span .one).line = some l ∧
    0 = l.upstream ∧ exhausted.allocate = (4, u) ∧
    (((1 : BitVec 8).toNat = SegId.num .one ∧ (exhausted.span .one).state = .closed ∧ exhausted.inService 0 = true ∧
      exhausted.inService (SegId.downStation .one) = true ∧ (4500#16).toNat ≤ bank.cMax * 10 ∧
      bank = (exhausted.station 0).banks.get (exhausted.station 0).active) ∧ exhausted.closedIsEmpty) ∧
    exhausted.reclaimOffers = [⟨.reclaims, 1, some .two, none, none⟩] :=
  ⟨_, _, takes_of (by decide +kernel) (by decide +kernel) (by decide +kernel) (by decide +kernel), rfl, by decide +kernel,
    Prod.ext (by decide +kernel) rfl,
    ⟨by decide +kernel, closedIsEmpty_of (by decide +kernel) (by decide +kernel) (by decide +kernel)⟩, by decide +kernel⟩

/-- R14, R59: the prime parcel takes the record that span 2 gives up. -/
theorem test_open_reclaims : (after (.spanOpen 0 1 0) exhausted).queue .two =
      [{ parcel 3 79 10 with flags := { Flags.none with coalesced := true } }] ∧
    ((after (.spanOpen 0 1 0) exhausted).queue .one).map (fun x => (x.index, x.volume)) = [(4, 79)] := by decide +kernel

theorem readingOut_line : (readingOut.span .one).line.isSome = true := by decide +kernel

theorem witness_OpenAndAgreeRefusals : allIn.takes 0 ∧ allIn.takes 1 ∧ headOpen.takes 0 ∧ readingOut.takes 0 ∧
    ((allIn.span .three).line = none ∧ (3 : BitVec 8).toNat = SegId.num .three ∧
      (allIn.span .two).line.map SpanLine.upstream = some 1 ∧ (headOpen.span .one).state ≠ .closed ∧
      (readingOut.span .one).line.map SpanLine.upstream = some 0 ∧ readingOut.inService 0 = false ∧
      bank.cMax * 10 < (4501#16).toNat ∧ (allIn.span .one).line.map SpanLine.upstream = some 0 ∧
      allIn.inService 0 = true ∧ allIn.inService 1 = true ∧
      allIn.n ≤ SegId.num .three ∧ (2 : StationId) ≠ SegId.upStation .one ∧ (allIn.segment .one).proposal = none ∧
      (pendingOne.segment .one).proposal = some ⟨0, settings, 100⟩ ∧ settings ≠ settingsOf { wire with m := 101 }) :=
  ⟨allIn_takes.1, allIn_takes.2.1, headOpen_takes.1, readingOut_takes, by decide +kernel⟩

theorem witness_SpanCloseReleases : headOpen.takes 0 ∧ headOpen.takes 1 ∧ (allIn.takes 0 ∧ allIn.takes 2) ∧
    ((1 : BitVec 8).toNat = SegId.num .one ∧ (headOpen.span .one).line.map SpanLine.upstream = some 0 ∧
      (headOpen.span .one).state ≠ .closed ∧ (allIn.span .one).state = .closed ∧ (allIn.span .three).line = none) :=
  ⟨headOpen_takes.1, headOpen_takes.2, ⟨allIn_takes.1, allIn_takes.2.2⟩, by decide +kernel⟩

/-- A window of n entries of one litre with its sums. -/
def windowed (n : Nat) : Span :=
  { Span.blank with window := List.replicate n ⟨-1, 1, 2⟩, wI := -n, wV := n, wE := 2 * n }

theorem witness_WindowPushKeepsSums : ∀ n ∈ [15, 16], (windowed n).window.length = n ∧
    (windowed n).wI = ((windowed n).window.map (fun x => x.dI)).sum ∧
    (windowed n).wV = ((windowed n).window.map (fun x => x.vOut)).sum ∧
    (windowed n).wE = ((windowed n).window.map (fun x => x.e)).sum := by decide +kernel

theorem witness_SpanReadAndParcelList : headOpen.takes 0 ∧ ((1 : BitVec 8).toNat = SegId.num .one ∧
    (headOpen.span .one).line.isSome = true ∧ (headOpen.span .three).line = none ∧ 12 < (13#8).toNat ∧ (12#8).toNat ≤ 12) :=
  ⟨headOpen_takes.1, by decide +kernel⟩

theorem witness_EvidenceMovesByCondition : (headOpen.span .one).line.isSome = true ∧
    (headOpen.span .one).eLeak ≤ 255 ∧ (headOpen.span .one).eDep ≤ 255 ∧ (headOpen.span .one).eDrift ≤ 255 ∧
    ∀ l ∈ (headOpen.span .one).line, 100 ≤ l.thr.tLeak ∧ 100 ≤ l.thr.tDrift ∧ 10 ≤ l.thr.tDep := by
  decide +kernel

/-- The line of span 1 of `allIn`, with N_s 1 and N_c 2. -/
def weighed (e d r : Nat) (v : Verdict) (n : Nat) : Span :=
  { windowed n with line := (allIn.span .one).line, state := .opened, eLeak := e, eDep := d, eDrift := r, verdict := v }

/-- The seven cases of derivation, each at a boundary of its levels. -/
theorem witness_DerivationTakesFirstCase : ({ weighed 0 0 0 .blind 16 with latch := true } : Span).derive.verdict = .leak ∧
    (weighed 2 2 1 .normal 15).derive.verdict = .blind ∧ (weighed 2 2 1 .normal 16).derive.verdict = .leak ∧
    (weighed 1 2 1 .normal 16).derive.verdict = .leakSuspect ∧ (weighed 0 2 1 .normal 16).derive.verdict = .deposit ∧
    (weighed 0 1 1 .deposit 16).derive.verdict = .deposit ∧ (weighed 0 1 1 .normal 16).derive.verdict = .depositSuspect ∧
    (weighed 0 0 1 .normal 16).derive.verdict = .drift ∧ (weighed 0 0 0 .deposit 16).derive.verdict = .normal := by
  decide +kernel

theorem witness_TripInputsAndHolds : allIn.config = .configured ∧ allIn.topologyHolds ∧
    ((allIn.port 0).trip = .high ∧ (allIn.span .one).line.map SpanLine.upstream = some 0 ∧
      (allIn.span .two).line.map SpanLine.upstream = some 1 ∧ (allIn.span .three).line = none ∧
      (0 : PortId) = SegId.upStation .one ∧ (0 : PortId) ≠ SegId.upStation .two ∧ (0 : PortId) ≠ SegId.downStation .two ∧
      ((after (.tripFallingEdge 0) allIn).port 0).trip = .low ∧
      timerDue 100 (some 100) = true) :=
  ⟨by decide +kernel, allIn_topology, by decide +kernel⟩

def latched : State := allIn.setSpan .one { allIn.span .one with latch := true, verdict := .leak }

theorem witness_VerdictClearUnlatches : (latched.takes 0 ∧ (latched.span .one).latch = true) ∧
    (allIn.takes 0 ∧ allIn.takes 2 ∧ (allIn.span .one).latch = false ∧ (allIn.span .one).line.isSome = true ∧
      (allIn.span .three).line = none) :=
  ⟨⟨takes_of (by decide +kernel) (by decide +kernel) (by decide +kernel) (by decide +kernel), by decide +kernel⟩,
    allIn_takes.1, allIn_takes.2.2, by decide +kernel⟩

theorem pendingOne_takes : pendingOne.takes 0 ∧ pendingOne.takes 1 :=
  ⟨takes_of (by decide +kernel) (by decide +kernel) (by decide +kernel) (by decide +kernel),
    takes_of (by decide +kernel) (by decide +kernel) (by decide +kernel) (by decide +kernel)⟩

theorem witness_ProposalRecordedOrRefused : allIn.takes 0 ∧ allIn.takes 2 ∧ pendingOne.takes 0 ∧ pendingOne.takes 1 ∧
    (allIn.n ≤ SegId.num .three ∧ (2 : StationId) ≠ SegId.downStation .one ∧ (settingsOf wire).valid = true ∧
      (settingsOf { wire with length := 9 }).valid = false ∧ (pendingOne.segment .one).proposal = some ⟨0, settings, 100⟩ ∧
      settings ≠ settingsOf { wire with m := 101 } ∧ (allIn.segment .one).proposal = none) ∧
    ((1 : StationId).val = (if (0 : PortId).val = SegId.num .one then SegId.num .one - 1 else SegId.num .one) ∧
      (0 : StationId).val = (if (1 : PortId).val = SegId.num .one then SegId.num .one - 1 else SegId.num .one)) :=
  ⟨allIn_takes.1, allIn_takes.2.2, pendingOne_takes.1, pendingOne_takes.2, by decide +kernel, by decide +kernel⟩

theorem witness_AgreementAppliesSettings : ∃ l, pendingOne.takes 1 ∧ pendingOne.topologyHolds ∧
    (pendingOne.span .one).line = some l ∧
    ((1 : BitVec 8).toNat = SegId.num .one ∧ SegId.num .one < pendingOne.n ∧ (1 : StationId) = SegId.downStation .one ∧
      (pendingOne.segment .one).proposal = some ⟨0, settings, 100⟩ ∧ (0 : StationId) ≠ 1 ∧ settings = settingsOf wire ∧
      (settingsOf wire).valid = true ∧ l.upstream.val < SegId.num .one ∧ SegId.num .one ≤ SegId.num .one) :=
  ⟨_, pendingOne_takes.2, topology_of (by decide +kernel) (by decide +kernel) (by decide +kernel) (by decide +kernel), rfl,
    by decide +kernel⟩

theorem witness_ProposalWithdrawnOrExpired : allIn.takes 0 ∧ allIn.takes 2 ∧ pendingOne.takes 0 ∧ pendingOne.takes 1 ∧
    (allIn.n ≤ SegId.num .three ∧ (2 : StationId) ≠ SegId.downStation .one ∧ (allIn.segment .one).proposal = none ∧
      (pendingOne.segment .one).proposal = some ⟨0, settings, 100⟩ ∧ reached pendingOne.lineTime 100 = true) ∧
    (1 : StationId).val = (if (0 : PortId).val = SegId.num .one then SegId.num .one - 1 else SegId.num .one) :=
  ⟨allIn_takes.1, allIn_takes.2.2, pendingOne_takes.1, pendingOne_takes.2, by decide +kernel, by decide +kernel⟩

theorem witness_SettingsReadReports : allIn.takes 0 ∧ allIn.topologyHolds ∧
    (allIn.n ≤ SegId.num .three ∧ SegId.num .two < allIn.n ∧ (allIn.span .two).line.map SpanLine.upstream = some 1 ∧
      (1 : StationId).val < SegId.num .two) :=
  ⟨allIn_takes.1, allIn_topology, by decide +kernel⟩

def allOwned : State := allIn.setWatches (Octet.fill { Watch.free with owner := some 2 })

theorem witness_WatchClaimSetReleaseRead : allIn.takes 0 ∧ (allOwned.takes 2 ∧ owned.takes 2 ∧ owned.takes 0) ∧
    ((allIn.watch 0).owner = none ∧ (owned.watch 1).owner = none ∧ (∀ k : WatchId, k < 1 → (owned.watch k).owner ≠ none) ∧
      (∀ i, (allOwned.watch i).owner ≠ none) ∧ (owned.watch 0).owner = some 2 ∧ 8 ≤ (8#8).toNat ∧
      watchSourceOf 9 = some .resolves ∧ watchFilterOf 3 = some (some .three) ∧ watchModeOf 3 = some .onsets ∧
      10 ≤ (10#8).toNat) :=
  ⟨allIn_takes.1, ⟨takes_of (by decide +kernel) (by decide +kernel) (by decide +kernel) (by decide +kernel),
      takes_of (by decide +kernel) (by decide +kernel) (by decide +kernel) (by decide +kernel),
      takes_of (by decide +kernel) (by decide +kernel) (by decide +kernel) (by decide +kernel)⟩, by decide +kernel⟩

theorem witness_WatchFreezeAndThaw : owned.takes 2 ∧ (owned.watch 0).owner = some 2 :=
  ⟨takes_of (by decide +kernel) (by decide +kernel) (by decide +kernel) (by decide +kernel), by decide +kernel⟩

def updatesOne : Sample := ⟨.updates, 1, some .one, none, none⟩

theorem witness_SampleMovesTakingCounters : (∀ i, (owned.watch i).freeze = false) ∧ (owned.watch 0).takes updatesOne = true ∧
    (owned.watch 1).takes updatesOne = false := by decide +kernel

def brim : State := allIn.setWatch 0
  { Watch.free with owner := some 2, value := 2 ^ 47 - 1, notify := true, freeze := true }

theorem witness_OverflowNotifiesAndFreezes : (brim.watch 0).owner = some 2 ∧ (brim.watch 0).takes updatesOne = true ∧
    overS48 ((brim.watch 0).moved updatesOne.value) = true ∧ (brim.watch 0).notify = true ∧
    (brim.watch 1).takes updatesOne = false ∧ (owned.watch 0).takes updatesOne = true ∧
    overS48 ((owned.watch 0).moved updatesOne.value) = false := by decide +kernel

def full : State := allIn.setPort 0 { allIn.port 0 with replies := four }

theorem witness_RequestsAreScreened : (full.port 0).rx.listening = true ∧ (full.port 0).replies.length = 4 ∧
    (({ allIn with config := .unconfigured } : State).hears 0 ∧ ({ allIn with config := .unconfigured } : State).config = .unconfigured) ∧
    (allIn.hears 3 ∧ allIn.config = .configured ∧ allIn.isConfigured 3 = false) :=
  ⟨by decide +kernel, by decide +kernel, ⟨⟨by decide +kernel, by decide +kernel⟩, by decide +kernel⟩,
    ⟨by decide +kernel, by decide +kernel⟩, by decide +kernel, by decide +kernel⟩

theorem witness_StatusReports : allIn.hears 3 := ⟨by decide +kernel, by decide +kernel⟩

def notice : Notice := ⟨.station 1 .out, 100⟩

def noticed (u r : List Notice) : State := allIn.setPort 0 ((allIn.port 0).withNotices u r)

theorem noticed_takes {u r : List Notice} : (noticed u r).takes 0 :=
  have h : allIn.takes 0 := allIn_takes.1
  h

theorem witness_NoticeGetTakesOldest : ((noticed [notice] []).takes 0 ∧ ((noticed [notice] []).port 0).urgent = notice :: []) ∧
    ((noticed [] [notice]).takes 0 ∧ ((noticed [] [notice]).port 0).urgent = [] ∧
      ((noticed [] [notice]).port 0).routine = notice :: []) ∧
    (allIn.takes 0 ∧ (allIn.port 0).urgent = [] ∧ (allIn.port 0).routine = []) :=
  ⟨⟨noticed_takes, by decide +kernel⟩, ⟨noticed_takes, by decide +kernel⟩, allIn_takes.1, by decide +kernel⟩

theorem witness_NoticeRaisedOrUpdated : ((noticed [notice] []).port 0).keys.Nodup ∧
    ((noticed [] [notice]).port 0).keys.Nodup ∧ notice.key = (NoticeBody.station 1 .inService).key ∧
    (NoticeBody.station 2 .out).key ∉ ((noticed [notice] []).port 0).keys ∧
    ((noticed [] [notice]).port 0).routine = [] ++ notice :: [] := by decide +kernel

theorem witness_PortRestartAndReplySent : allIn.config ≠ .loading ∧ (allIn.port 0).rx ≠ .awaitMark ∧
    ((allIn.setRx 0 .awaitMark).port 0).rx = .awaitMark ∧
    (full.port 0).replies = ⟨0x01, .empty, .none⟩ :: List.replicate 3 ⟨0x01, .empty, .none⟩ := by decide +kernel

theorem witness_ReceiverMoves : (full.port 0).rx.listening = true ∧ (full.port 0).replies.length = 4 ∧
    ((allIn.setRx 0 .awaitMark).port 0).rx.listening = false ∧ allIn.hears 0 ∧ isRequestKind 0x7F = false ∧
    ((allIn.port 0).replies.length < 4 ∧ isRequestKind 0x01 = true ∧ payloadLength 0x01 ≠ some 1) ∧
    (allIn.port 0).rx = .hunt ∧ ((allIn.setRx 0 .length).port 0).rx = .length ∧
    ((allIn.setRx 0 (.body 1 [] 0)).port 0).rx = .body 1 [] 0 ∧
    ((allIn.setRx 0 (.check [1] 0 none)).port 0).rx = .check [1] 0 none ∧
    ((allIn.setRx 0 (.check [1] 0 (some 1))).port 0).rx = .check [1] 0 (some 1) ∧ (0#8 ++ 1#8 : BitVec 16) ≠ 0 :=
  ⟨by decide +kernel, by decide +kernel, by decide +kernel, allIn_takes.1.2.2, by decide +kernel, by decide +kernel,
    by decide +kernel, by decide +kernel, by decide +kernel, by decide +kernel, by decide +kernel, by decide +kernel⟩

/-- A notice's reply byte by byte from R188 and R189: kind, key, part, line time, the number left, then its payload. -/
theorem test_notice_bytes : (ReplyBody.notice ⟨.watch 5 (-2), 0x01020304⟩ true 3).bytes =
    [5, 5, 1, 0x04, 0x03, 0x02, 0x01, 3, 5, 0xFE, 0xFF, 0xFF, 0xFF, 0xFF, 0xFF] := by decide +kernel

theorem witness_FrameBytesAreTheRequest : (allIn.port 0).rx = .hunt ∧
    exec (requestRow 0 .stationOut) allIn = .next (after (.stationOut 0) allIn) := ⟨by decide +kernel, rfl⟩

/-! A state that meets every invariant: span 1 of a line of N = 3 is OPEN with one parcel, and a command waits. -/

def whole : State :=
  { (allIn.setSpan .one { allIn.span .one with state := .opened, q := 79, s := 10 }).setQueue .one [parcel 0 79 10] with
    free := List.range' 1 2047
    pending := [.lineTimeTick] }

theorem whole_topology : whole.topologyHolds :=
  topology_of (by decide +kernel) (by decide +kernel) (by decide +kernel) (by decide +kernel)

theorem whole_empty : whole.emptyUntilConfigured := fun h => absurd (by decide +kernel : whole.config = .configured) h

theorem whole_absent : whole.absentIsClosed :=
  absentIsClosed_of (by decide +kernel) (by decide +kernel) (by decide +kernel)

theorem whole_pool : whole.poolWhole := by
  have h : (List.range' 1 2047 ++ [0] ++ [] ++ [] : List Nat).Perm (List.range poolSize) := by
    rw [List.append_nil, List.append_nil, List.range_eq_range']
    exact List.perm_append_comm
  exact h

theorem whole_geometry : whole.geometryHolds := by
  refine ⟨fun k _ => ?_, fun k q h => ?_⟩
  · cases k <;> decide +kernel
  · cases k <;> cases h

theorem witness_StepKeepsPoolWhole : whole.storeHolds ∧ step whole = .next (after .lineTimeTick { whole with pending := [] }) :=
  ⟨⟨whole_topology, whole_empty, whole_geometry, whole_absent,
    closedIsEmpty_of (by decide +kernel) (by decide +kernel) (by decide +kernel), whole_pool,
    fun j => by cases j <;> decide +kernel⟩, rfl⟩

theorem witness_StepKeepsBalanceIdentity : whole.balanceHolds := by
  refine ⟨whole_topology, whole_empty, whole_absent, whole_geometry, fun j l hs hm hl => ?_⟩
  rw [← excess_of_line hl]
  revert hs
  cases j <;> decide +kernel

theorem whole_banks : whole.banksHold := by
  refine ⟨whole_empty, fun st b hc => ?_⟩
  have hb : (whole.station st).banks.get b = if st = 3 then Bank.zero else bank := by
    fin_cases st <;> fin_cases b <;> decide +kernel
  have h3 : st ≠ 3 := by
    rintro rfl
    exact absurd hc (by decide +kernel)
  rw [hb, if_neg h3]
  exact ⟨by decide +kernel, by decide +kernel, by decide +kernel, by decide +kernel, by decide +kernel, by decide +kernel⟩

theorem witness_StepKeepsSpanRecords : (whole.topologyHolds ∧ whole.geometryHolds ∧ whole.banksHold) ∧
    whole.latchHolds ∧ whole.windowsHold ∧ whole.rangesHold := by
  refine ⟨⟨whole_topology, whole_geometry, whole_banks⟩, fun j => ?_, fun j => ?_, fun j => ?_⟩
  · cases j <;> decide +kernel
  · cases j <;> decide +kernel
  · have h : ∀ sp : Span, sp.vIn = none → sp.vOut = none → (sp.eLeak ≤ maxEvidence ∧ sp.eDep ≤ maxEvidence ∧
        sp.eDrift ≤ maxEvidence ∧ sp.q ≤ maxU48 ∧ sp.s ≤ maxU48 ∧ sp.d ≤ maxU48 ∧ sp.inflow ≤ maxU48 ∧
        sp.outflow ≤ maxU48 ∧ sp.updates ≤ maxUpdates ∧ (minS48 ≤ sp.o ∧ sp.o ≤ maxS48) ∧
        (minS48 ≤ sp.i ∧ sp.i ≤ maxS48)) → sp.inRange := by
      rintro sp h1 h2 ⟨a, b, c, rest⟩
      exact ⟨a, b, c, by simp [h1], by simp [h2], rest⟩
    cases j <;> exact h _ (by decide +kernel) (by decide +kernel) (by decide +kernel)

theorem witness_StepKeepsPorts : whole.noticesHold ∧ whole.buffersHold ∧ whole.serialHolds := by
  refine ⟨fun p => ?_, fun p => ?_, by unfold State.serialHolds; decide +kernel⟩
  · have h : (whole.port p).keys = [] := by fin_cases p <;> decide +kernel
    have a : (whole.port p).attn = .high := by fin_cases p <;> decide +kernel
    simp [h, a]
  · fin_cases p <;> decide +kernel

theorem witness_StepKeepsStations : whole.readingsHold ∧ whole.banksHold ∧ whole.unusedHolds := by
  refine ⟨fun st => ?_, whole_banks, whole_topology, whole_empty, fun p _ => ?_, fun i p h => ?_, fun k q h => ?_⟩
  · have hq : (whole.station st).queue = [] := by fin_cases st <;> decide +kernel
    have hr : (whole.station st).resolve = none := by fin_cases st <;> decide +kernel
    simp [Station.queueHolds, hq, hr, Station.headState]
  · fin_cases p <;> decide +kernel
  · have : (whole.watch i).owner = none := by fin_cases i <;> decide +kernel
    simp [this] at h
  · cases k <;> cases h

end Sys2Proof.Tests
end

section
/-! The requests SPAN_OPEN and SETTINGS_AGREE: what their numbers name, and the refusals that R13 and R133 list. -/

namespace Sys2Proof.Machine

/-! What a request's number names. -/

theorem ofNumber_eq_some_iff {b : Byte} {k : SegId} : SegId.ofNumber b = some k ↔ b.toNat = k.num := by
  unfold SegId.ofNumber
  split
  case h_1 hb => cases k <;> simp [hb, SegId.num]
  case h_2 hb => cases k <;> simp [hb, SegId.num]
  case h_3 hb => cases k <;> simp [hb, SegId.num]
  case h_4 h1 h2 h3 =>
    cases k with
    | one => simpa [SegId.num] using h1
    | two => simpa [SegId.num] using h2
    | three => simpa [SegId.num] using h3

theorem spanNamed_eq_some_iff {s : State} {b : Byte} {j : SpanId} {l : SpanLine} :
    s.spanNamed b = some (j, l) ↔ b.toNat = j.num ∧ (s.span j).line = some l := by
  rw [← ofNumber_eq_some_iff]
  unfold State.spanNamed
  cases SegId.ofNumber b with
  | none => simp
  | some k =>
    simp only [Option.map_eq_some_iff, Prod.mk.injEq, Option.some.injEq]
    constructor
    · rintro ⟨_, hl, rfl, rfl⟩
      exact ⟨rfl, hl⟩
    · rintro ⟨rfl, hl⟩
      exact ⟨l, hl, rfl, rfl⟩

theorem spanNamed_eq_none {s : State} {b : Byte} (h : ∀ j : SpanId, b.toNat = j.num → (s.span j).line = none) :
    s.spanNamed b = none := by
  refine Option.eq_none_iff_forall_ne_some.2 fun ⟨j, l⟩ hs => ?_
  obtain ⟨hb, hl⟩ := spanNamed_eq_some_iff.1 hs
  simp [h j hb] at hl

theorem segmentNamed_eq_some_iff {s : State} {b : Byte} {k : SegId} :
    s.segmentNamed b = some k ↔ b.toNat = k.num ∧ k.num < s.n := by
  simp [State.segmentNamed, State.isSegment, Option.filter_eq_some_iff, ofNumber_eq_some_iff]

theorem segmentNamed_eq_none {s : State} {b : Byte} (h : ∀ k : SegId, b.toNat = k.num → s.n ≤ k.num) :
    s.segmentNamed b = none := by
  refine Option.eq_none_iff_forall_ne_some.2 fun k hs => ?_
  obtain ⟨hb, hk⟩ := segmentNamed_eq_some_iff.1 hs
  exact absurd hk (Nat.not_lt.2 (h k hb))

/-- A request that its owning block refuses leaves the state but for the receiver and the reply (R167, R168). -/
theorem exec_requestRow_of_refuse {s : State} {p : PortId} {r : Request} {code : Result} (h : s.takes p)
    (ha : answerTo p r (s.setRx p .hunt) = refuse (s.setRx p .hunt) code) :
    exec (requestRow p r) s = .next (s.answered p r.kind code .none) := by
  rw [exec_requestRow, completeRequest_of_takes r h, ha]
  exact congrArg _ (reply_setRx s p r.kind code .none)

/-! The checks of SPAN_OPEN on a present span, in their order (R13). -/

section
variable {s : State} {p : PortId} {id : Byte} {cFill : BitVec 16} {j : SpanId} {l : SpanLine}

theorem answerSpanOpen_of_absent (h : ∀ j : SpanId, id.toNat = j.num → (s.span j).line = none) :
    answerSpanOpen p id cFill s = refuse s .noSpan := by
  simp [answerSpanOpen, spanNamed_eq_none h]

theorem answerSpanOpen_of_present (hid : id.toNat = j.num) (hl : (s.span j).line = some l) :
    answerSpanOpen p id cFill s =
      if p ≠ l.upstream then refuse s .notParty
      else if (s.span j).state ≠ .closed then refuse s .wrongState
      else if !s.bothEndsIn j l then refuse s .endsNotReady
      else if ((s.station p).banks.get (s.station p).active).cMax * 10 < cFill.toNat then refuse s .outOfRange
      else doneWith (s.openSpan j l cFill.toNat) := by
  simp [answerSpanOpen, spanNamed_eq_some_iff.2 ⟨hid, hl⟩]

theorem answerSpanOpen_notParty (hid : id.toNat = j.num) (hl : (s.span j).line = some l) (hp : p ≠ l.upstream) :
    answerSpanOpen p id cFill s = refuse s .notParty := by
  rw [answerSpanOpen_of_present hid hl, if_pos hp]

theorem answerSpanOpen_wrongState (hid : id.toNat = j.num) (hl : (s.span j).line = some l) (hp : p = l.upstream)
    (hs : (s.span j).state ≠ .closed) : answerSpanOpen p id cFill s = refuse s .wrongState := by
  rw [answerSpanOpen_of_present hid hl, if_neg (not_not.2 hp), if_pos hs]

theorem answerSpanOpen_endsNotReady (hid : id.toNat = j.num) (hl : (s.span j).line = some l) (hp : p = l.upstream)
    (hs : (s.span j).state = .closed) (he : ¬ (s.inService l.upstream = true ∧ s.inService j.downStation = true)) :
    answerSpanOpen p id cFill s = refuse s .endsNotReady := by
  have hb : (!s.bothEndsIn j l) = true := by simpa [← bothEndsIn_iff] using he
  rw [answerSpanOpen_of_present hid hl, if_neg (not_not.2 hp), if_neg (not_not.2 hs), if_pos hb]

theorem answerSpanOpen_outOfRange (hid : id.toNat = j.num) (hl : (s.span j).line = some l) (hp : p = l.upstream)
    (hs : (s.span j).state = .closed) (hu : s.inService l.upstream = true) (hd : s.inService j.downStation = true)
    (hc : ((s.station p).banks.get (s.station p).active).cMax * 10 < cFill.toNat) :
    answerSpanOpen p id cFill s = refuse s .outOfRange := by
  have hb : ¬ (!s.bothEndsIn j l) = true := by simp [bothEndsIn_iff.2 ⟨hu, hd⟩]
  rw [answerSpanOpen_of_present hid hl, if_neg (not_not.2 hp), if_neg (not_not.2 hs), if_neg hb, if_pos hc]

end

/-! The checks of SETTINGS_AGREE, in their order (R133). -/

section
variable {s : State} {p : PortId} {segment : Byte} {r : SettingsWire} {k : SegId} {q : Proposal}

theorem answerSettingsAgree_of_noSegment (h : ∀ k : SegId, segment.toNat = k.num → s.n ≤ k.num) :
    answerSettingsAgree p segment r s = refuse s .outOfRange := by
  simp [answerSettingsAgree, segmentNamed_eq_none h]

theorem answerSettingsAgree_of_notEnd (hk : segment.toNat = k.num) (hn : k.num < s.n) (hu : p ≠ k.upStation)
    (hd : p ≠ k.downStation) : answerSettingsAgree p segment r s = refuse s .notParty := by
  have hp : isEndOfSegment p k = false := by simp [isEndOfSegment, hu, hd]
  simp [answerSettingsAgree, segmentNamed_eq_some_iff.2 ⟨hk, hn⟩, hp]

theorem answerSettingsAgree_of_noProposal (hk : segment.toNat = k.num) (hn : k.num < s.n)
    (hp : p = k.upStation ∨ p = k.downStation) (hq : (s.segment k).proposal = none) :
    answerSettingsAgree p segment r s = refuse s .wrongState := by
  simp [answerSettingsAgree, segmentNamed_eq_some_iff.2 ⟨hk, hn⟩, isEndOfSegment_iff.2 hp, hq]

theorem answerSettingsAgree_of_proposal (hk : segment.toNat = k.num) (hn : k.num < s.n)
    (hp : p = k.upStation ∨ p = k.downStation) (hq : (s.segment k).proposal = some q) :
    answerSettingsAgree p segment r s =
      if q.proposer = p then refuse s .notParty
      else if q.settings = settingsOf r then doneWith (s.applySettings k q.settings)
      else refuse s .mismatch := by
  simp [answerSettingsAgree, segmentNamed_eq_some_iff.2 ⟨hk, hn⟩, isEndOfSegment_iff.2 hp, hq]

theorem answerSettingsAgree_of_proposer (hk : segment.toNat = k.num) (hn : k.num < s.n)
    (hp : p = k.upStation ∨ p = k.downStation) (hq : (s.segment k).proposal = some q) (ho : q.proposer = p) :
    answerSettingsAgree p segment r s = refuse s .notParty := by
  rw [answerSettingsAgree_of_proposal hk hn hp hq, if_pos ho]

theorem answerSettingsAgree_mismatch (hk : segment.toNat = k.num) (hn : k.num < s.n)
    (hp : p = k.upStation ∨ p = k.downStation) (hq : (s.segment k).proposal = some q) (ho : q.proposer ≠ p)
    (hx : q.settings ≠ settingsOf r) : answerSettingsAgree p segment r s = refuse s .mismatch := by
  rw [answerSettingsAgree_of_proposal hk hn hp hq, if_neg ho, if_neg hx]

end

end Sys2Proof.Machine

open Sys2Proof Sys2Proof.Machine

/-- Settles O30: each refusal of the owning block, answered at the port. The state that the block reads differs from `s` in
the port's receiver alone, so the conditions hold of it as they stand. -/
theorem openAndAgreeRefusals : Obligations.OpenAndAgreeRefusals := by
  unfold Obligations.OpenAndAgreeRefusals
  refine ⟨fun s p id cFill ht => ?_, fun s p segment r ht => ?_⟩
  · have refused {code : Result} :=
      exec_requestRow_of_refuse (r := .spanOpen id cFill) (code := code) ht
    exact ⟨fun h => refused (answerSpanOpen_of_absent h), fun j l hid hl =>
      ⟨fun hp => refused (answerSpanOpen_notParty hid hl hp),
        fun hp hs => refused (answerSpanOpen_wrongState hid hl hp hs),
        fun hp hs he => refused (answerSpanOpen_endsNotReady hid hl hp hs he),
        fun hp hs hu hd hc => refused (answerSpanOpen_outOfRange hid hl hp hs hu hd hc)⟩⟩
  · have refused {code : Result} :=
      exec_requestRow_of_refuse (r := .settingsAgree segment r) (code := code) ht
    exact ⟨fun h => refused (answerSettingsAgree_of_noSegment h), fun k hk hn =>
      ⟨fun hu hd => refused (answerSettingsAgree_of_notEnd hk hn hu hd), fun hp =>
        ⟨fun hq => refused (answerSettingsAgree_of_noProposal hk hn hp hq), fun q hq =>
          ⟨fun ho => refused (answerSettingsAgree_of_proposer hk hn hp hq ho),
            fun ho hx => refused (answerSettingsAgree_mismatch hk hn hp hq ho hx)⟩⟩⟩⟩

end

section
/-! Reading conversion: the class of a reading by the first test that holds (R33, R34), and what its conversion gives by class,
by the bank's mode and by the last-good composition (R33, R35 to R38). -/

namespace Sys2Proof.Machine

/-! The class of a reading. -/

section
variable {b : Bank} {r : Reading} {v : Nat}

@[simp] theorem classify_zero (b : Bank) (r : Reading) : classify b r 0 = .idle := rfl

theorem classify_of_flush (hv : 0 < v) (hf : r.flush = true) : classify b r v = .flush := by
  rw [classify, if_neg hv.ne', if_pos hf]

theorem classify_of_fault (hv : 0 < v) (hf : r.flush = false) (hx : r.fault = true) : classify b r v = .fault := by
  rw [classify, if_neg hv.ne', if_neg (by simp [hf]), if_pos hx]

/-- Without either flag the density alone decides. The model's bound `rhoW - deltaW` is cut off at 0, which a sum says without
a premise on the bank. -/
theorem classify_of_unflagged (hv : 0 < v) (hf : r.flush = false) (hx : r.fault = false) :
    classify b r v =
      if r.rhoM + b.deltaW < b.rhoW then .low
      else if r.rhoM ≤ b.rhoW then .water
      else if solidsFraction b r.rhoM ≤ b.cMax * 10 then .slurry
      else .high := by
  have hlow : r.rhoM < b.rhoW - b.deltaW ↔ r.rhoM + b.deltaW < b.rhoW := by omega
  rw [classify, if_neg hv.ne', if_neg (by simp [hf]), if_neg (by simp [hx])]
  simp only [hlow]

/-- A density above the bank's water density is neither LOW nor WATER. -/
theorem classify_of_dense (hv : 0 < v) (hf : r.flush = false) (hx : r.fault = false) (hd : b.rhoW < r.rhoM) :
    classify b r v = if solidsFraction b r.rhoM ≤ b.cMax * 10 then .slurry else .high := by
  rw [classify_of_unflagged hv hf hx, if_neg (by omega), if_neg (by omega)]

end

/-! The conversion of a reading, from the measured part of its result. -/

section
variable {b : Bank} {lg : Option Composition} {r : Reading} {c : Conversion} {cls : ReadingClass} {stage : Stage}

theorem measured_of_classify (h : classify b r (correctedVolume r.vRaw b.kQ) = cls) :
    measured b r = ⟨correctedVolume r.vRaw b.kQ, clampDuration r.t, cls, none, Flags.none⟩ := by
  rw [← h]; rfl

/-- R33: a reading of corrected volume 0 is measured as IDLE, whatever its flags and density. -/
theorem measured_of_volume_zero (h : correctedVolume r.vRaw b.kQ = 0) :
    measured b r = ⟨0, clampDuration r.t, .idle, none, Flags.none⟩ := by
  simp [measured, h]

theorem convert_of_inRange (hc : measured b r = c) (h : convertInRange b r c = some stage) : convert b lg r = stage := by
  subst hc
  simp only [convert, h]

theorem convertInRange_of_outOfRange (b : Bank) (r : Reading) (h : c.cls = .low ∨ c.cls = .high ∨ c.cls = .fault) :
    convertInRange b r c = none := by
  unfold convertInRange
  obtain h | h | h := h <;> rw [h]

theorem convert_of_refer (hc : measured b r = c) (h : c.cls = .low ∨ c.cls = .high ∨ c.cls = .fault)
    (hm : b.mode = .refer) : convert b lg r = .awaiting c := by
  subst hc
  simp only [convert, convertInRange_of_outOfRange b r h, hm]

theorem convert_of_limit (hc : measured b r = c) (h : c.cls = .low ∨ c.cls = .high ∨ c.cls = .fault)
    (hm : b.mode = .limit) : convert b lg r = convertLimit b lg c := by
  subst hc
  simp only [convert, convertInRange_of_outOfRange b r h, hm]

theorem lastGoodAfter_of_water (hc : measured b r = c) (h : c.cls = .water) :
    lastGoodAfter b lg r = some ⟨0, b.rhoS⟩ := by
  subst hc
  rw [lastGoodAfter, h]

theorem lastGoodAfter_of_slurry (hc : measured b r = c) (h : c.cls = .slurry) :
    lastGoodAfter b lg r = some ⟨solidsFraction b r.rhoM, b.rhoS⟩ := by
  subst hc
  rw [lastGoodAfter, h]

/-- WATER and SLURRY alone set the last-good composition (R36, R37). -/
theorem lastGoodAfter_of_ne (hc : measured b r = c) (hw : c.cls ≠ .water) (hs : c.cls ≠ .slurry) :
    lastGoodAfter b lg r = lg := by
  subst hc
  unfold lastGoodAfter
  split
  case h_1 h => exact absurd h hw
  case h_2 h => exact absurd h hs
  case h_3 => rfl

theorem lastGoodAfter_of_outOfRange (hc : measured b r = c) (h : c.cls = .low ∨ c.cls = .high ∨ c.cls = .fault) :
    lastGoodAfter b lg r = lg :=
  lastGoodAfter_of_ne hc (by rintro e; simp [e] at h) (by rintro e; simp [e] at h)

end

end Sys2Proof.Machine

open Sys2Proof Sys2Proof.Machine

/-- Settles O19: at volume 0 the measured part is IDLE before any flag or density is looked at, and IDLE converts in range. -/
theorem idleReadingConverts : Obligations.IdleReadingConverts := by
  unfold Obligations.IdleReadingConverts
  intro b lg r hv
  have hc := measured_of_volume_zero hv
  exact ⟨convert_of_inRange hc rfl, lastGoodAfter_of_ne hc (by simp) (by simp)⟩

/-- Settles O20: the flags are tested first, then the density, and above the water density the solids fraction. The bank's
premises, that R34's differences are not negative, are not used: the model's tests say the same in naturals without them. -/
theorem classIsTheFirstTest : Obligations.ClassIsTheFirstTest := by
  unfold Obligations.ClassIsTheFirstTest
  intro b r v hv _ _
  refine ⟨classify_of_flush hv, classify_of_fault hv, fun hf hx => ⟨fun hlow => ?_, fun hge hle => ?_, fun hd hc => ?_,
    fun hd hc => ?_⟩⟩
  · rw [classify_of_unflagged hv hf hx, if_pos hlow]
  · rw [classify_of_unflagged hv hf hx, if_neg (by omega), if_pos hle]
  · rw [classify_of_dense hv hf hx hd]
    exact if_pos hc
  · rw [classify_of_dense hv hf hx hd]
    exact if_neg (not_le.2 hc)

/-- Settles O21: the class fixes the measured part. An in-range class converts by its own arm; an out-of-range one goes by the
bank's mode, and in LIMIT mode by its class and, for FAULT, by whether a last-good pair is held. -/
theorem conversionFollowsClass : Obligations.ConversionFollowsClass := by
  unfold Obligations.ConversionFollowsClass
  rintro b lg r _ _ _ rfl rfl rfl
  refine ⟨fun h => ?flush, fun h => ?water, fun h => ?slurry, fun cls h hout => ?outOfRange⟩
  all_goals have hc := measured_of_classify h
  case flush => exact ⟨convert_of_inRange hc rfl, lastGoodAfter_of_ne hc (by simp) (by simp)⟩
  case water => exact ⟨convert_of_inRange hc rfl, lastGoodAfter_of_water hc rfl⟩
  case slurry => exact ⟨convert_of_inRange hc rfl, lastGoodAfter_of_slurry hc rfl⟩
  case outOfRange =>
    refine ⟨lastGoodAfter_of_outOfRange hc hout, convert_of_refer hc hout, ?low, ?high, ?faultWithoutPair, ?faultWithPair⟩
    case low => rintro hm rfl; exact convert_of_limit hc hout hm
    case high => rintro hm rfl; exact convert_of_limit hc hout hm
    case faultWithoutPair => rintro hm rfl rfl; exact convert_of_limit hc hout hm
    case faultWithPair => rintro g hm rfl rfl; exact convert_of_limit hc hout hm

end

section
/-! Evidence and verdicts: the conditions of a counted update and the counters they move (R114 to R118), and the verdict that
derivation gives, case by case (R121 to R123). -/

namespace Sys2Proof.Machine

/-! The evidence conditions. -/

section
variable {sp : Span} {t : Thresholds}

theorem leakHolds_iff : sp.leakHolds t = true ↔ (t.tLeak : Int) ≤ sp.excess := by
  simp [Span.leakHolds]

theorem depositHolds_iff :
    sp.depositHolds t = true ↔
      (t.tDep : Int) ≤ sp.wI ∧ ∃ v, sp.vIn = some v ∧ v * 1000 < t.vC * (1000 + t.m) := by
  unfold Span.depositHolds
  split
  case h_1 hv => simp [hv]
  case h_2 v hv => simp [hv]

theorem driftHolds_iff :
    sp.driftHolds t = true ↔ sp.excess ≤ -(t.tDrift : Int) ∨ sp.wI ≤ -(t.tDep : Int) := by
  simp [Span.driftHolds]

/-- An excess at the leak level is above 0, one at the drift level below it. -/
theorem leakHolds_excludes_drift (hl : 100 ≤ t.tLeak) (hd : 100 ≤ t.tDrift) (h : sp.leakHolds t = true) :
    ¬ sp.excess ≤ -(t.tDrift : Int) := by
  have hx := leakHolds_iff.1 h
  omega

/-- A window deficit at the deposit level is above 0, one at the drift level below it. -/
theorem depositHolds_excludes_drift (ht : 10 ≤ t.tDep) (h : sp.depositHolds t = true) : ¬ sp.wI ≤ -(t.tDep : Int) := by
  obtain ⟨hw, -⟩ := depositHolds_iff.1 h
  omega

end

/-- R118: where a condition moves its counter, by whether it holds and by whether the counter stands at its limit. -/
theorem moveEvidence_moves {e : Nat} (h : Bool) (he : e ≤ 255) :
    moveEvidence e h ≤ 255 ∧ (h = true → e < 255 → moveEvidence e h = e + 1) ∧
      (h = true → e = 255 → moveEvidence e h = 255) ∧ (h = false → 0 < e → moveEvidence e h + 1 = e) ∧
      (h = false → e = 0 → moveEvidence e h = 0) := by
  cases h with
  | true =>
    have hup : moveEvidence e true = min (e + 1) 255 := rfl
    simp only [hup, reduceCtorEq, false_implies, true_implies, and_true]
    omega
  | false =>
    have hdown : moveEvidence e false = e - 1 := rfl
    simp only [hdown, reduceCtorEq, false_implies, true_implies, true_and]
    omega

/-! The verdict by the first case that holds (R121). -/

section
variable {sp : Span} {l : SpanLine} {t : Thresholds}

@[simp] theorem derive_verdict (sp : Span) : sp.derive.verdict = sp.derivedVerdict := rfl

theorem derivedVerdict_of_latch (h : sp.latch = true) : sp.derivedVerdict = .leak := if_pos h

/-- With the latch clear, an OPEN span whose window is full is judged by its evidence. -/
theorem derivedVerdict_of_full (hl : sp.line = some l) (hc : sp.latch = false) (ho : sp.state = .opened)
    (hw : windowSize ≤ sp.window.length) : sp.derivedVerdict = sp.findingBy l.thr := by
  simp [Span.derivedVerdict, hl, hc, ho, hw]

/-- R123: after derivation the latch is set exactly with LEAK. -/
theorem derive_leak_iff_latch (sp : Span) : sp.derive.verdict = .leak ↔ sp.derive.latch = true := by
  cases hc : sp.latch with
  | true => simp [Span.derive, hc, derivedVerdict_of_latch hc]
  | false => simp [Span.derive, hc]

theorem findingBy_leak (h : t.nC ≤ sp.eLeak) : sp.findingBy t = .leak := if_pos h

theorem findingBy_leakSuspect (hc : sp.eLeak < t.nC) (hs : t.nS ≤ sp.eLeak) : sp.findingBy t = .leakSuspect := by
  rw [Span.findingBy, if_neg hc.not_ge, if_pos hs]

/-- Leak evidence below both levels leaves the finding to the other two counters. -/
theorem findingBy_of_noLeak (hc : sp.eLeak < t.nC) (hs : sp.eLeak < t.nS) :
    sp.findingBy t =
      if t.nC ≤ sp.eDep ∨ sp.verdict = .deposit ∧ t.nS ≤ sp.eDep then .deposit
      else if t.nS ≤ sp.eDep then .depositSuspect
      else if t.nS ≤ sp.eDrift then .drift
      else .normal := by
  rw [Span.findingBy, if_neg hc.not_ge, if_neg hs.not_ge]

theorem findingBy_depositSuspect (hc : sp.eLeak < t.nC) (hs : sp.eLeak < t.nS) (hd : sp.eDep < t.nC)
    (hv : sp.verdict ≠ .deposit) (hds : t.nS ≤ sp.eDep) : sp.findingBy t = .depositSuspect := by
  have hno : ¬ (t.nC ≤ sp.eDep ∨ sp.verdict = .deposit ∧ t.nS ≤ sp.eDep) := by simp [hv, hd]
  rw [findingBy_of_noLeak hc hs, if_neg hno, if_pos hds]

/-- Deposit evidence below both levels leaves the finding to the drift counter, whatever the previous verdict. -/
theorem findingBy_of_noDeposit (hc : sp.eLeak < t.nC) (hs : sp.eLeak < t.nS) (hd : sp.eDep < t.nC)
    (hds : sp.eDep < t.nS) : sp.findingBy t = if t.nS ≤ sp.eDrift then .drift else .normal := by
  have hno : ¬ (t.nC ≤ sp.eDep ∨ sp.verdict = .deposit ∧ t.nS ≤ sp.eDep) := by simp [hd, hds]
  rw [findingBy_of_noLeak hc hs, if_neg hno, if_neg hds.not_ge]

end

end Sys2Proof.Machine

open Sys2Proof Sys2Proof.Machine

/-- Settles O34: the conditions are read off the exact excess and the window, each counter moves by `moveEvidence_moves` under
its own condition, and the exclusions rest on the thresholds being above 0. -/
theorem evidenceMovesByCondition : Obligations.EvidenceMovesByCondition := by
  unfold Obligations.EvidenceMovesByCondition
  refine ⟨fun sp l hl => ?conditions, fun sp t hLeak hDep hDrift htLeak htDrift htDep => ⟨?counters, ?leak, ?deposit⟩⟩
  case conditions =>
    rw [← excess_of_line hl]
    exact ⟨leakHolds_iff, depositHolds_iff, driftHolds_iff⟩
  case counters =>
    rintro e h e' (hm | hm | hm) <;> cases hm
    · exact moveEvidence_moves _ hLeak
    · exact moveEvidence_moves _ hDep
    · exact moveEvidence_moves _ hDrift
  case leak =>
    rintro l hl ⟨h, hx⟩
    rw [← excess_of_line hl] at hx
    exact leakHolds_excludes_drift htLeak htDrift h hx
  case deposit =>
    rintro ⟨h, hw⟩
    exact depositHolds_excludes_drift htDep h hw

/-- Settles O35: the latch first, then whether the span is OPEN with a full window, then the evidence counters in the order
leak, deposit, drift. -/
theorem derivationTakesFirstCase : Obligations.DerivationTakesFirstCase := by
  unfold Obligations.DerivationTakesFirstCase
  intro sp l hl
  refine ⟨derive_leak_iff_latch sp, derivedVerdict_of_latch, fun hc hb => ?blind, fun hc ho hw => ?full, rfl⟩
  case blind => rw [derive_verdict, derivedVerdict_of_blind sp hb, hc, if_neg Bool.false_ne_true]
  case full =>
    rw [derive_verdict, derivedVerdict_of_full hl hc ho hw]
    refine ⟨findingBy_leak, findingBy_leakSuspect, fun hlc hls =>
      ⟨fun hd => ?deposit, findingBy_depositSuspect hlc hls, fun hd hds hr => ?drift, fun hd hds hr => ?normal⟩⟩
    case deposit => rw [findingBy_of_noLeak hlc hls, if_pos hd]
    case drift => rw [findingBy_of_noDeposit hlc hls hd hds, if_pos hr]
    case normal => rw [findingBy_of_noDeposit hlc hls hd hds, if_neg hr.not_ge]

end

section
/-! The requests SETTINGS_WITHDRAW and SETTINGS_READ and the agreement expiry: a proposal removed and told of (R134, R135,
R142), and what a segment's report holds (R141). -/

namespace Sys2Proof.Machine

/-! Ports after a notice is raised, after a reply is placed and after a receiver is replaced. -/

section
variable (s : State) (p : PortId)

@[simp] theorem raise_port_same (body : NoticeBody) (urgent : Bool) :
    (s.raise p body urgent).port p = (s.port p).raise body urgent s.lineTime := setPort_port_same _ _ _

@[simp] theorem raise_port_ne (body : NoticeBody) (urgent : Bool) {q : PortId} (h : q ≠ p) :
    (s.raise p body urgent).port q = s.port q := setPort_port_ne _ _ _ h

@[simp] theorem raise_segment (body : NoticeBody) (urgent : Bool) (k : SegId) :
    (s.raise p body urgent).segment k = s.segment k := rfl

@[simp] theorem reply_port_same (kind : Byte) (result : Result) (body : ReplyBody) :
    (s.reply p kind result body).port p = (s.port p).reply ⟨kind, result, body⟩ := setPort_port_same _ _ _

@[simp] theorem reply_port_ne (kind : Byte) (result : Result) (body : ReplyBody) {q : PortId} (h : q ≠ p) :
    (s.reply p kind result body).port q = s.port q := setPort_port_ne _ _ _ h

@[simp] theorem reply_segment (kind : Byte) (result : Result) (body : ReplyBody) (k : SegId) :
    (s.reply p kind result body).segment k = s.segment k := rfl

@[simp] theorem setRx_port_same (rx : Receiver) : (s.setRx p rx).port p = { s.port p with rx := rx } :=
  setPort_port_same _ _ _

@[simp] theorem setRx_port_ne (rx : Receiver) {q : PortId} (h : q ≠ p) : (s.setRx p rx).port q = s.port q :=
  setPort_port_ne _ _ _ h

end

/-! What a raised notice leaves of a port, and where the port holds it. -/

@[simp] theorem Port.raise_linkOf (p : Port) (body : NoticeBody) (urgent : Bool) (now : LineTime) :
    (p.raise body urgent now).linkOf = p.linkOf := by
  obtain ⟨hrate, hrx, hreplies, htrip⟩ := p.raise_link body urgent now
  simp [Port.linkOf, hrate, hrx, hreplies, htrip]

theorem NoticesOnly.sameLinks {s t : State} (h : NoticesOnly s t) : s.sameLinks t := by
  intro p
  obtain ⟨hrate, hrx, hreplies, htrip⟩ := h.link p
  simp [Port.linkOf, hrate, hrx, hreplies, htrip]

/-- A part that holds the key of a notice holds its body once it is updated, unless it is a VERDICT (R176). -/
theorem updateHeld_holds {body : NoticeBody} {part : List Notice} (hv : ∀ j a b, body ≠ .verdict j a b)
    (h : holdsKey body.key part = true) : ∃ x ∈ updateHeld body part, x.body = body := by
  obtain ⟨n, hn, hk⟩ := (holdsKey_iff _ _).1 h
  exact ⟨_, mem_updateHeld_of_eq hn hk, NoticeBody.coalesce_body _ _ hv⟩

/-- A notice raised as ROUTINE is updated where its key is held, else added to the ROUTINE part (R175, R176). -/
theorem Port.tells_raise (p : Port) {body : NoticeBody} (now : LineTime) (hv : ∀ j a b, body ≠ .verdict j a b) :
    p.tells (p.raise body false now) body false := by
  by_cases hu : holdsKey body.key p.urgent = true
  · simpa [Port.tells, Port.raise, hu] using updateHeld_holds hv hu
  · by_cases hr : holdsKey body.key p.routine = true
    · simpa [Port.tells, Port.raise, hu, hr] using updateHeld_holds hv hr
    · simp [Port.tells, Port.raise, hu, hr]

/-! The ends of a segment (R130, R132). -/

theorem otherEnd_ne (st : StationId) (k : SegId) : otherEnd st k ≠ st := by
  unfold otherEnd
  split
  case isTrue h => subst h; cases k <;> decide
  case isFalse h => exact Ne.symm h

theorem otherEnd_val {st : StationId} {k : SegId} (h : st = k.upStation ∨ st = k.downStation) :
    (otherEnd st k).val = if st.val = k.num then k.num - 1 else k.num := by
  obtain rfl | rfl := h <;> cases k <;> rfl

/-! What a request that its port takes does, by its owning block's answer (R167, R168). -/

theorem exec_requestRow_of_answer {s : State} {p : PortId} {r : Request} {a : Answer} (h : s.takes p)
    (ha : answerTo p r (s.setRx p .hunt) = a) :
    exec (requestRow p r) s = .next (a.state.reply p r.kind a.result a.body) := by
  rw [exec_requestRow, completeRequest_of_takes r h, ha]

/-- A request that its owning block answers without a change leaves the state but for the receiver and the reply. -/
theorem exec_requestRow_of_report {s : State} {p : PortId} {r : Request} {result : Result} {body : ReplyBody}
    (h : s.takes p) (ha : answerTo p r (s.setRx p .hunt) = ⟨result, body, s.setRx p .hunt⟩) :
    exec (requestRow p r) s = .next (s.answered p r.kind result body) := by
  rw [exec_requestRow_of_answer h ha, reply_setRx]

/-! A proposal removed, with the notice of its removal (R134, R135). -/

/-- What stands in a state that differs from another in segments and ports alone. -/
theorem same_of_segments_and_ports {s t : State} (h : t = { s with segments := t.segments, ports := t.ports }) :
    s.sameStations t ∧ s.sameSpans t ∧ s.sameStore t ∧ s.sameWatches t ∧ s.sameSetUp t := by
  rw [h]
  exact ⟨⟨rfl, fun _ => rfl⟩, fun _ => rfl, ⟨rfl, fun _ => rfl⟩, fun _ => rfl,
    rfl, rfl, rfl, rfl, rfl, rfl, rfl, rfl, rfl, rfl⟩

section
variable (s : State) (k : SegId)

@[simp] theorem removeProposal_segment_same :
    (s.removeProposal k).segment k = { s.segment k with proposal := none } := setSegment_segment_same _ _ _

@[simp] theorem removeProposal_segment_ne {i : SegId} (h : i ≠ k) : (s.removeProposal k).segment i = s.segment i :=
  setSegment_segment_ne _ _ _ h

@[simp] theorem removeProposal_port (p : PortId) : (s.removeProposal k).port p = s.port p := rfl

@[simp] theorem removeProposal_lineTime : (s.removeProposal k).lineTime = s.lineTime := rfl

end

/-- The state that a SETTINGS_WITHDRAW by the proposer leaves: the proposal removed, the other end told, and the answer at the
proposer's port (R134). -/
def State.withdrawnBy (s : State) (p : PortId) (k : SegId) : State :=
  (((s.setRx p .hunt).removeProposal k).raiseSettings (otherEnd p k) k .withdrawn).reply p 0x32 .done .none

section
variable (s : State) (p : PortId) (k : SegId)

theorem withdrawnBy_segment_same : (s.withdrawnBy p k).segment k = { s.segment k with proposal := none } := by
  simp [State.withdrawnBy, State.raiseSettings]

theorem withdrawnBy_segment_ne {i : SegId} (h : i ≠ k) : (s.withdrawnBy p k).segment i = s.segment i := by
  simp [State.withdrawnBy, State.raiseSettings, h]

/-- The notice goes to the other end's port, which the answer does not reach. -/
theorem withdrawnBy_port_otherEnd : (s.withdrawnBy p k).port (otherEnd p k) =
    (s.port (otherEnd p k)).raise (.settings k .withdrawn) false s.lineTime := by
  simp [State.withdrawnBy, State.raiseSettings, otherEnd_ne p k]

theorem withdrawnBy_port_ne {x : PortId} (hp : x ≠ p) (ho : x ≠ otherEnd p k) :
    (s.withdrawnBy p k).port x = s.port x := by
  simp [State.withdrawnBy, State.raiseSettings, hp, ho]

theorem withdrawnBy_sameLinksBut : s.sameLinksBut (s.withdrawnBy p k) p := by
  intro x hx
  by_cases ho : x = otherEnd p k
  · subst ho
    rw [withdrawnBy_port_otherEnd, Port.raise_linkOf]
  · rw [withdrawnBy_port_ne s p k hx ho]

theorem withdrawnBy_repliedAt : s.repliedAt (s.withdrawnBy p k) p ⟨0x32, .done, .none⟩ := by
  simp [State.repliedAt, State.withdrawnBy, State.raiseSettings, (otherEnd_ne p k).symm, Port.reply, Port.linkOf]

end

/-- The reached expiry of a pending proposal (R135). -/
theorem exec_agreementExpiry_of_reached {s : State} {k : SegId} {q : Proposal} (hq : (s.segment k).proposal = some q)
    (hr : reached s.lineTime q.expiry = true) :
    exec (.agreementExpiry k) s = .next ((s.removeProposal k).raiseSettings q.proposer k .expired) := by
  have hx : exec (.agreementExpiry k) s = execAgreementExpiry k s := rfl
  simp [hx, execAgreementExpiry, hq, hr]

/-! The checks of SETTINGS_WITHDRAW, in their order (R134). -/

section
variable {s : State} {p : PortId} {segment : Byte} {k : SegId} {q : Proposal}

theorem answerSettingsWithdraw_of_noSegment (h : ∀ k : SegId, segment.toNat = k.num → s.n ≤ k.num) :
    answerSettingsWithdraw p segment s = refuse s .outOfRange := by
  simp [answerSettingsWithdraw, segmentNamed_eq_none h]

theorem answerSettingsWithdraw_of_notEnd (hk : segment.toNat = k.num) (hn : k.num < s.n) (hu : p ≠ k.upStation)
    (hd : p ≠ k.downStation) : answerSettingsWithdraw p segment s = refuse s .notParty := by
  have hp : isEndOfSegment p k = false := by simp [isEndOfSegment, hu, hd]
  simp [answerSettingsWithdraw, segmentNamed_eq_some_iff.2 ⟨hk, hn⟩, hp]

theorem answerSettingsWithdraw_of_noProposal (hk : segment.toNat = k.num) (hn : k.num < s.n)
    (hp : p = k.upStation ∨ p = k.downStation) (hq : (s.segment k).proposal = none) :
    answerSettingsWithdraw p segment s = refuse s .wrongState := by
  simp [answerSettingsWithdraw, segmentNamed_eq_some_iff.2 ⟨hk, hn⟩, isEndOfSegment_iff.2 hp, hq]

theorem answerSettingsWithdraw_of_proposal (hk : segment.toNat = k.num) (hn : k.num < s.n)
    (hp : p = k.upStation ∨ p = k.downStation) (hq : (s.segment k).proposal = some q) :
    answerSettingsWithdraw p segment s =
      if q.proposer = p then doneWith ((s.removeProposal k).raiseSettings (otherEnd p k) k .withdrawn)
      else refuse s .notParty := by
  simp [answerSettingsWithdraw, segmentNamed_eq_some_iff.2 ⟨hk, hn⟩, isEndOfSegment_iff.2 hp, hq]

theorem answerSettingsWithdraw_of_other (hk : segment.toNat = k.num) (hn : k.num < s.n)
    (hp : p = k.upStation ∨ p = k.downStation) (hq : (s.segment k).proposal = some q) (ho : q.proposer ≠ p) :
    answerSettingsWithdraw p segment s = refuse s .notParty := by
  rw [answerSettingsWithdraw_of_proposal hk hn hp hq, if_neg ho]

theorem answerSettingsWithdraw_of_proposer (hk : segment.toNat = k.num) (hn : k.num < s.n)
    (hp : p = k.upStation ∨ p = k.downStation) (hq : (s.segment k).proposal = some q) (ho : q.proposer = p) :
    answerSettingsWithdraw p segment s =
      doneWith ((s.removeProposal k).raiseSettings (otherEnd p k) k .withdrawn) := by
  rw [answerSettingsWithdraw_of_proposal hk hn hp hq, if_pos ho]

theorem exec_settingsWithdraw_of_proposer (ht : s.takes p) (hk : segment.toNat = k.num) (hn : k.num < s.n)
    (hp : p = k.upStation ∨ p = k.downStation) (hq : (s.segment k).proposal = some q) (ho : q.proposer = p) :
    exec (.settingsWithdraw p segment) s = .next (s.withdrawnBy p k) :=
  exec_requestRow_of_answer (r := .settingsWithdraw segment) ht (answerSettingsWithdraw_of_proposer hk hn hp hq ho)

end

/-! SETTINGS_READ (R141). -/

section
variable {s : State} {segment : Byte} {k : SegId}

theorem answerSettingsRead_of_noSegment (h : ∀ k : SegId, segment.toNat = k.num → s.n ≤ k.num) :
    answerSettingsRead segment s = refuse s .outOfRange := by
  simp [answerSettingsRead, segmentNamed_eq_none h]

theorem answerSettingsRead_of_segment (hk : segment.toNat = k.num) (hn : k.num < s.n) :
    answerSettingsRead segment s =
      ⟨.done, .segment k (s.segment k).settings (s.segment k).area (s.segment k).vSeg (s.spanContaining k)
        (s.segment k).proposal, s⟩ := by
  simp [answerSettingsRead, segmentNamed_eq_some_iff.2 ⟨hk, hn⟩]

end

/-! The one span that contains a segment (R10). -/

section
variable {s : State} {i j k : SegId} {l : SpanLine}

theorem SegId.eq_of_num_eq (h : i.num = j.num) : i = j := by
  have ofNumber_num (m : SegId) : SegId.ofNumber (BitVec.ofNat 8 m.num) = some m := by cases m <;> rfl
  exact Option.some.inj ((ofNumber_num i).symm.trans (h ▸ ofNumber_num j))

/-- The upstream end of a span is no further up than any span end below it. -/
theorem num_le_upstreamEnd (hi : s.isSpanEnd i = true) (h : i.num < j.num) : i.num ≤ (s.upstreamEnd j).val := by
  cases j with
  | one => cases i <;> simp [SegId.num] at h
  | two =>
    cases i with
    | one => simp [State.upstreamEnd, hi, SegId.num]
    | two | three => simp [SegId.num] at h
  | three =>
    cases i with
    | one =>
      simp only [State.upstreamEnd, hi, if_true, SegId.num]
      split <;> simp
    | two => simp [State.upstreamEnd, hi, SegId.num]
    | three => simp [SegId.num] at h

/-- A present span that starts above segment k ends no further down than one that reaches k: a span end between the two would
be its upstream end (R10). -/
theorem num_le_of_covered (ht : s.topologyHolds) {m : SpanLine} (hi : (s.span i).line = some m)
    (hj : (s.span j).line = some l) (hl : l.upstream.val < k.num) (hk : k.num ≤ i.num) : j.num ≤ i.num := by
  obtain ⟨-, hline⟩ := ht
  obtain ⟨hend, -⟩ := lineOf_some ((hline i).symm.trans hi)
  obtain ⟨-, rfl⟩ := lineOf_some ((hline j).symm.trans hj)
  by_contra hlt
  have hup : i.num ≤ (s.derivedLine j).upstream.val := num_le_upstreamEnd hend (not_le.1 hlt)
  omega

theorem spanContaining_eq (ht : s.topologyHolds) (hj : (s.span j).line = some l) (hl : l.upstream.val < k.num)
    (hk : k.num ≤ j.num) : s.spanContaining k = some j := by
  have hfound : (s.spanContaining k).isSome = true :=
    List.find?_isSome.2 ⟨j, by cases j <;> simp [SegId.all], (covers_iff hj).2 ⟨hl, hk⟩⟩
  obtain ⟨i, hi⟩ := Option.isSome_iff_exists.1 hfound
  obtain ⟨m, hm, hml, hmk⟩ := spanContaining_some hi
  have hij : i = j :=
    SegId.eq_of_num_eq (le_antisymm (num_le_of_covered ht hj hm hml hk) (num_le_of_covered ht hm hj hl hmk))
  rw [hi, hij]

end

end Sys2Proof.Machine

open Sys2Proof Sys2Proof.Machine

/-- Settles O40: the refusals of the owning block are answered at the port. A removed proposal is one segment's record and one
notice, to the other end or to the proposer; a withdrawal also answers at the proposer's port, which the notice does not
reach. -/
theorem proposalWithdrawnOrExpired : Obligations.ProposalWithdrawnOrExpired := by
  unfold Obligations.ProposalWithdrawnOrExpired
  have refused {s : State} {p : PortId} {segment : Byte} {code : Result} :=
    exec_requestRow_of_refuse (s := s) (p := p) (r := .settingsWithdraw segment) (code := code)
  refine ⟨fun s p segment ht h => refused ht (answerSettingsWithdraw_of_noSegment h), fun s p segment k hk =>
    ⟨fun ht hn hu hd => refused ht (answerSettingsWithdraw_of_notEnd hk hn hu hd),
      fun ht hn hp hq => refused ht (answerSettingsWithdraw_of_noProposal hk hn hp hq),
      fun q ht hn hp hq ho => refused ht (answerSettingsWithdraw_of_other hk hn hp hq ho),
      fun q ht hn hp hq ho other hother => ?withdrawn, fun q hq hr => ?expired⟩⟩
  case withdrawn =>
    obtain rfl : other = otherEnd p k := Fin.ext (hother.trans (otherEnd_val hp).symm)
    obtain ⟨hstations, hspans, hstore, hwatches, hsetUp⟩ :=
      same_of_segments_and_ports (s := s) (t := s.withdrawnBy p k) rfl
    refine ⟨_, exec_settingsWithdraw_of_proposer ht hk hn hp hq ho, withdrawnBy_segment_same s p k,
      fun i => withdrawnBy_segment_ne s p k, ?told, fun x => withdrawnBy_port_ne s p k, hstations, hspans, hstore, hwatches,
      hsetUp, withdrawnBy_sameLinksBut s p k, withdrawnBy_repliedAt s p k⟩
    case told =>
      rw [State.told, withdrawnBy_port_otherEnd]
      exact Port.tells_raise _ _ (by simp)
  case expired =>
    obtain ⟨hstations, hspans, hstore, hwatches, hsetUp⟩ := same_of_segments_and_ports (s := s)
      (t := (s.removeProposal k).raiseSettings q.proposer k .expired) rfl
    have hnotices := noticesOnly_raise (s.removeProposal k) q.proposer (.settings k .expired) false
    refine ⟨_, exec_agreementExpiry_of_reached hq hr, removeProposal_segment_same s k,
      fun i => removeProposal_segment_ne s k, ?told, fun x => raise_port_ne _ _ _ _, hstations, hspans, hstore, hwatches,
      hsetUp, hnotices.sameLinks⟩
    case told =>
      rw [State.told, State.raiseSettings, raise_port_same]
      exact Port.tells_raise _ _ (by simp)

/-- Settles O41: the report is the segment's record, and under the topology invariant the span that the model's search finds
is the one that covers the segment. -/
theorem settingsReadReports : Obligations.SettingsReadReports := by
  unfold Obligations.SettingsReadReports
  intro s p segment ht
  refine ⟨fun h => exec_requestRow_of_refuse (r := .settingsRead segment) ht (answerSettingsRead_of_noSegment h),
    fun k j l hk hn htop hl hup hdown => exec_requestRow_of_report (r := .settingsRead segment) ht ?_⟩
  rw [← spanContaining_eq htop hl hup hdown]
  exact answerSettingsRead_of_segment hk hn

end

section
/-! The requests WATCH_CLAIM, WATCH_SET, WATCH_RELEASE and WATCH_READ: the codes of a configuration (R186), the counter that a
request names, and the refusals that R146 and R147 list. -/

namespace Sys2Proof.Machine

/-! The codes of source, filter and mode are places in the lists of R186. -/

theorem watchSourceOf_eq_getElem? (b : Byte) :
    watchSourceOf b = [.updateDeficit, .updateExcess, .occupancy, .updates, .shortfall, .exitAge, .exitSolids,
      .inflowVelocity, .reclaims, .resolves][b.toNat]? := by
  unfold watchSourceOf
  generalize b.toNat = n
  match n with
  | 0 | 1 | 2 | 3 | 4 | 5 | 6 | 7 | 8 | 9 => rfl
  | _ + 10 => rfl

theorem watchFilterOf_eq_getElem? (b : Byte) :
    watchFilterOf b = [none, some .one, some .two, some .three][b.toNat]? := by
  unfold watchFilterOf
  generalize b.toNat = n
  match n with
  | 0 | 1 | 2 | 3 => rfl
  | _ + 4 => rfl

theorem watchModeOf_eq_getElem? (b : Byte) : watchModeOf b = [.add, .atLeast, .below, .onsets][b.toNat]? := by
  unfold watchModeOf
  generalize b.toNat = n
  match n with
  | 0 | 1 | 2 | 3 => rfl
  | _ + 4 => rfl

theorem watchSourceOf_eq_none {b : Byte} (h : 10 ≤ b.toNat) : watchSourceOf b = none := by
  rw [watchSourceOf_eq_getElem?]
  exact List.getElem?_eq_none h

theorem watchFilterOf_eq_none {b : Byte} (h : 4 ≤ b.toNat) : watchFilterOf b = none := by
  rw [watchFilterOf_eq_getElem?]
  exact List.getElem?_eq_none h

theorem watchModeOf_eq_none {b : Byte} (h : 4 ≤ b.toNat) : watchModeOf b = none := by
  rw [watchModeOf_eq_getElem?]
  exact List.getElem?_eq_none h

/-! The lowest-numbered FREE counter (R145). -/

section
variable {s : State} {p : PortId} {i : WatchId}

/-- The model's search through its list of counters is the library's search for the least index. -/
theorem firstFree_eq_find? (s : State) : s.firstFree = Fin.find? fun i : WatchId => (s.watch i).owner.isNone := by
  rw [Fin.find?_eq_find?_finRange]
  rfl

theorem firstFree_eq_some (hi : (s.watch i).owner = none) (hlow : ∀ k, k < i → (s.watch k).owner ≠ none) :
    s.firstFree = some i := by
  rw [firstFree_eq_find?, Fin.find?_eq_some_iff]
  exact ⟨by simp [hi], fun k hk => by simpa [Option.isSome_iff_ne_none] using hlow k hk⟩

theorem firstFree_eq_none (h : ∀ i, (s.watch i).owner ≠ none) : s.firstFree = none := by
  simpa [firstFree_eq_find?, Option.isSome_iff_ne_none] using h

theorem answerWatchClaim_of_free (hi : (s.watch i).owner = none) (hlow : ∀ k, k < i → (s.watch k).owner ≠ none) :
    answerWatchClaim p s = ⟨.done, .index i, s.setWatch i { Watch.free with owner := some p }⟩ := by
  simp [answerWatchClaim, firstFree_eq_some hi hlow]

theorem answerWatchClaim_of_noneFree (h : ∀ i, (s.watch i).owner ≠ none) :
    answerWatchClaim p s = refuse s .noneFree := by
  simp [answerWatchClaim, firstFree_eq_none h]

end

/-! The counter that an index names, and the checks that WATCH_SET and WATCH_RELEASE share (R146, R147). -/

section
variable {s : State} {p q : PortId} {index : Byte} {i : WatchId} {r : WatchWire} {code : Result}

theorem index8_eq_none (h : 8 ≤ index.toNat) : index8 index = none := dif_neg h.not_gt

theorem index8_eq_some (h : index.toNat = i.val) : index8 index = some i := by
  simp [index8, h]

theorem ownedCounter_of_noCounter (h : 8 ≤ index.toNat) : ownedCounter p index s = .error .outOfRange := by
  simp [ownedCounter, index8_eq_none h]

theorem ownedCounter_of_free (hi : index.toNat = i.val) (h : (s.watch i).owner = none) :
    ownedCounter p index s = .error .wrongState := by
  simp [ownedCounter, index8_eq_some hi, h]

theorem ownedCounter_of_other (hi : index.toNat = i.val) (h : (s.watch i).owner = some q) (hq : q ≠ p) :
    ownedCounter p index s = .error .notOwner := by
  simp [ownedCounter, index8_eq_some hi, h, hq]

theorem ownedCounter_of_owner (hi : index.toNat = i.val) (h : (s.watch i).owner = some p) :
    ownedCounter p index s = .ok i := by
  simp [ownedCounter, index8_eq_some hi, h]

theorem answerWatchSet_of_error (h : ownedCounter p index s = .error code) :
    answerWatchSet p index r s = refuse s code := by
  simp [answerWatchSet, h]

theorem answerWatchSet_of_unlisted (h : ownedCounter p index s = .ok i)
    (hr : watchSourceOf r.source = none ∨ watchFilterOf r.filter = none ∨ watchModeOf r.mode = none) :
    answerWatchSet p index r s = refuse s .outOfRange := by
  simp only [answerWatchSet, h]
  split
  case h_1 hsource hfilter hmode => simp [hsource, hfilter, hmode] at hr
  case h_2 => rfl

theorem answerWatchSet_of_listed {source : WatchSource} {filter : Option SpanId} {mode : WatchMode}
    (h : ownedCounter p index s = .ok i) (hsource : watchSourceOf r.source = some source)
    (hfilter : watchFilterOf r.filter = some filter) (hmode : watchModeOf r.mode = some mode) :
    answerWatchSet p index r s = doneWith (s.setWatch i ((s.watch i).configured source filter mode r)) := by
  simp [answerWatchSet, h, hsource, hfilter, hmode]

theorem answerWatchRelease_of_error (h : ownedCounter p index s = .error code) :
    answerWatchRelease p index s = refuse s code := by
  simp [answerWatchRelease, h]

theorem answerWatchRelease_of_ok (h : ownedCounter p index s = .ok i) :
    answerWatchRelease p index s = doneWith (s.setWatch i Watch.free) := by
  simp [answerWatchRelease, h]

theorem answerWatchRead_of_noCounter (h : 8 ≤ index.toNat) : answerWatchRead index s = refuse s .outOfRange := by
  simp [answerWatchRead, index8_eq_none h]

theorem answerWatchRead_of_counter (hi : index.toNat = i.val) :
    answerWatchRead index s = ⟨.done, .watch i (s.watch i), s⟩ := by
  simp [answerWatchRead, index8_eq_some hi]

/-! The requests at a port that takes them. -/

/-- A request whose owning block replaces one watch counter leaves that change, the receiver and the reply (R167, R168). -/
theorem exec_requestRow_of_setWatch {request : Request} {result : Result} {body : ReplyBody} {w : Watch} (ht : s.takes p)
    (ha : answerTo p request (s.setRx p .hunt) = ⟨result, body, (s.setRx p .hunt).setWatch i w⟩) :
    exec (requestRow p request) s = .next ((s.setWatch i w).answered p request.kind result body) := by
  rw [exec_requestRow_of_answer ht ha, reply_setWatch]

/-- WATCH_SET and WATCH_RELEASE answer the first of their shared checks that fails, and change nothing (R146, R147). -/
theorem exec_watchSet_and_watchRelease_of_error (ht : s.takes p)
    (h : ownedCounter p index (s.setRx p .hunt) = .error code) :
    exec (.watchSet p index r) s = .next (s.answered p 0x41 code .none) ∧
      exec (.watchRelease p index) s = .next (s.answered p 0x43 code .none) :=
  ⟨exec_requestRow_of_refuse (r := .watchSet index r) ht (answerWatchSet_of_error h),
    exec_requestRow_of_refuse (r := .watchRelease index) ht (answerWatchRelease_of_error h)⟩

/-- A code above its list is refused, whichever of the three it is (R147, R186). -/
theorem exec_watchSet_of_unlisted (ht : s.takes p) (ho : ownedCounter p index (s.setRx p .hunt) = .ok i)
    (h : 10 ≤ r.source.toNat ∨ 4 ≤ r.filter.toNat ∨ 4 ≤ r.mode.toNat) :
    exec (.watchSet p index r) s = .next (s.answered p 0x41 .outOfRange .none) :=
  exec_requestRow_of_refuse (r := .watchSet index r) ht <| answerWatchSet_of_unlisted ho <|
    h.imp watchSourceOf_eq_none (Or.imp watchFilterOf_eq_none watchModeOf_eq_none)

end

end Sys2Proof.Machine

open Sys2Proof Sys2Proof.Machine

/-- Settles O42: a claim takes the first counter without an owner; a set and a release share the checks of `ownedCounter`, and
an owner's request replaces that one counter. -/
theorem watchClaimSetReleaseRead : Obligations.WatchClaimSetReleaseRead := by
  unfold Obligations.WatchClaimSetReleaseRead
  refine ⟨fun b => ⟨watchSourceOf_eq_getElem? b, watchFilterOf_eq_getElem? b, watchModeOf_eq_getElem? b⟩,
    fun s p ht => ⟨fun i hi hlow => ?claimed, fun h => ?noneFree⟩,
    fun s p index r ht => ⟨fun h => ?noCounter, fun i hi => ⟨?read, fun hfree => ?free, fun q hq hne => ?other,
      fun ho => ?owner⟩⟩⟩
  case claimed => exact exec_requestRow_of_setWatch (request := .watchClaim) ht (answerWatchClaim_of_free hi hlow)
  case noneFree => exact exec_requestRow_of_refuse (r := .watchClaim) ht (answerWatchClaim_of_noneFree h)
  case noCounter =>
    obtain ⟨hset, hrelease⟩ := exec_watchSet_and_watchRelease_of_error (r := r) ht (ownedCounter_of_noCounter h)
    exact ⟨hset, hrelease, exec_requestRow_of_refuse (r := .watchRead index) ht (answerWatchRead_of_noCounter h)⟩
  case read => exact exec_requestRow_of_report (r := .watchRead index) ht (answerWatchRead_of_counter hi)
  case free => exact exec_watchSet_and_watchRelease_of_error ht (ownedCounter_of_free hi hfree)
  case other => exact exec_watchSet_and_watchRelease_of_error ht (ownedCounter_of_other hi hq hne)
  case owner =>
    have hc : ownedCounter p index (s.setRx p .hunt) = .ok i := ownedCounter_of_owner hi ho
    refine ⟨exec_requestRow_of_setWatch (request := .watchRelease index) ht (answerWatchRelease_of_ok hc),
      exec_watchSet_of_unlisted ht hc, fun source filter mode hsource hfilter hmode => ?_⟩
    rw [← ho]
    exact exec_requestRow_of_setWatch (request := .watchSet index r) ht
      (answerWatchSet_of_listed hc hsource hfilter hmode)

end

section
/-! What a step can do: one inversion of the requests' answers and one of the commands, from which every invariant is
derived. -/

namespace Sys2Proof.Machine

/-- What the owning blocks make of a state when they answer a request of a port: nothing, or one of the changes that the
requests' rules name, each with the checks that it has passed. -/
inductive Answers (p : PortId) (s : State) : State → Prop
  | same : Answers p s s
  | stationIn (hout : s.inService p = false) :
      Answers p s (s.changeService p .inService (some (expiryAfter s.lineTime s.tStale)))
  | stationOut (hnot : (s.station p).service ≠ .out) : Answers p s (s.changeService p .out none)
  | readingQueued (r : Reading) (hr : r.stage = .queued) (hlen : (s.station p).queue.length < readingPlaces)
      (hq : (s.station p).queue ≠ []) : Answers p s (s.acceptReading p r)
  | readingAtHead (r : Reading) (hr : r.stage = .queued) (hq : (s.station p).queue = []) :
      Answers p s ((s.acceptReading p r).convertHead p)
  | resolved (r : Reading) (rest : List Reading) (c c' : Conversion) (m : Nat) (hq : (s.station p).queue = r :: rest)
      (hr : r.stage = .awaiting c) : Answers p s (s.settleHead p { r with stage := .ready c' m } rest)
  | bankWritten (b : BankId) (w : BankWire) (x : Bank) (hx : bankOf w = some x) :
      Answers p s (s.setStation p { s.station p with banks := (s.station p).banks.set b x })
  | bankSelected (b : BankId) : Answers p s (s.setStation p { s.station p with active := b })
  | spanOpened (j : SpanId) (l : SpanLine) (cFill : Nat) (hl : (s.span j).line = some l) (hp : p = l.upstream)
      (hc : (s.span j).state = .closed) (he : s.bothEndsIn j l = true)
      (hf : cFill ≤ ((s.station p).banks.get (s.station p).active).cMax * 10) : Answers p s (s.openSpan j l cFill)
  | spanClosed (j : SpanId) (l : SpanLine) (hl : (s.span j).line = some l) (hc : (s.span j).state ≠ .closed) :
      Answers p s (s.closeSpan j)
  | verdictCleared (j : SpanId) (l : SpanLine) (hl : (s.span j).line = some l) :
      Answers p s ((s.setSpan j (s.span j).cleared).announceVerdict j (s.span j).verdict)
  | proposed (k : SegId) (x : Settings) (hk : k.num < s.n) (hp : p = k.upStation ∨ p = k.downStation)
      (hx : x.valid = true) : Answers p s (s.recordProposal p k x)
  | applied (k : SegId) (q : Proposal) (hk : k.num < s.n) (hq : (s.segment k).proposal = some q) :
      Answers p s (s.applySettings k q.settings)
  | withdrawn (k : SegId) (hk : k.num < s.n) (hp : p = k.upStation ∨ p = k.downStation) :
      Answers p s ((s.removeProposal k).raiseSettings (otherEnd p k) k .withdrawn)
  | watchOwned (i : WatchId) (w : Watch) (hw : w.owner = some p ∨ w.owner = none) : Answers p s (s.setWatch i w)
  | watchesFrozen (flag : Bool) : Answers p s (s.freezeOwned p flag)
  | noticeTaken (urgent routine : List Notice)
      (hu : (∃ x, (s.port p).urgent = x :: urgent ∧ (s.port p).routine = routine) ∨
        ∃ x, (s.port p).urgent = urgent ∧ urgent = [] ∧ (s.port p).routine = x :: routine) :
      Answers p s (s.setPort p ((s.port p).withNotices urgent routine))

theorem answerReading_answers (p : PortId) (vRaw t rhoM : BitVec 16) (flush fault : Bool) (s : State) :
    Answers p s (answerReading p vRaw t rhoM flush fault s).state := by
  unfold answerReading
  split
  · exact .same
  · split
    · exact .same
    · rename_i hlen
      by_cases hq : (s.station p).queue = []
      · simpa [hq] using Answers.readingAtHead (acceptedReading (s.station p) vRaw t rhoM flush fault) rfl hq
      · simpa [hq] using
          Answers.readingQueued (acceptedReading (s.station p) vRaw t rhoM flush fault) rfl (not_le.1 hlen) hq

theorem answerResolve_answers (p : PortId) (tag : Byte) (mAns : BitVec 32) (s : State) :
    Answers p s (answerResolve p tag mAns s).state := by
  unfold answerResolve
  split
  · exact .same
  · rename_i r rest hq
    split
    · rename_i c hr
      split
      · exact .resolved r rest c _ _ hq hr
      · exact .same
    · exact .same

theorem answerBankWrite_answers (p : PortId) (bank : Byte) (w : BankWire) (s : State) :
    Answers p s (answerBankWrite p bank w s).state := by
  unfold answerBankWrite
  split
  · rename_i b x hb hx
    exact .bankWritten b w x hx
  · exact .same

theorem answerBankSelect_answers (p : PortId) (bank : Byte) (s : State) :
    Answers p s (answerBankSelect p bank s).state := by
  unfold answerBankSelect
  split
  · exact .bankSelected _
  · exact .same

theorem answerBankRead_answers (p : PortId) (station bank : Byte) (s : State) :
    Answers p s (answerBankRead station bank s).state := by
  unfold answerBankRead
  split
  · exact .same
  · split <;> exact .same

theorem answerSpanOpen_answers (p : PortId) (id : Byte) (cFill : BitVec 16) (s : State) :
    Answers p s (answerSpanOpen p id cFill s).state := by
  unfold answerSpanOpen
  split
  · exact .same
  · rename_i j l hs
    split
    · exact .same
    · rename_i hp
      split
      · exact .same
      · rename_i hc
        split
        · exact .same
        · rename_i he
          split
          · exact .same
          · rename_i hf
            exact .spanOpened j l cFill.toNat (spanNamed_eq_some_iff.1 hs).2 (not_not.1 hp) (not_not.1 hc)
              (by simpa using he) (not_lt.1 hf)

theorem answerSpanClose_answers (p : PortId) (id : Byte) (s : State) :
    Answers p s (answerSpanClose p id s).state := by
  unfold answerSpanClose
  split
  · exact .same
  · rename_i j l hs
    split
    · exact .same
    · split
      · exact .same
      · rename_i hc
        exact .spanClosed j l (spanNamed_eq_some_iff.1 hs).2 hc

theorem answerSpanRead_answers (p : PortId) (id : Byte) (s : State) : Answers p s (answerSpanRead id s).state := by
  unfold answerSpanRead
  split <;> exact .same

theorem answerParcelList_answers (p : PortId) (id : Byte) (start : BitVec 16) (count : Byte) (s : State) :
    Answers p s (answerParcelList id start count s).state := by
  unfold answerParcelList
  split
  · exact .same
  · split <;> exact .same

theorem answerVerdictClear_answers (p : PortId) (id : Byte) (s : State) :
    Answers p s (answerVerdictClear p id s).state := by
  unfold answerVerdictClear
  split
  · exact .same
  · rename_i j l hs
    split
    · exact .same
    · split
      · exact .same
      · exact .verdictCleared j l (spanNamed_eq_some_iff.1 hs).2

theorem answerSettingsPropose_answers (p : PortId) (segment : Byte) (w : SettingsWire) (s : State) :
    Answers p s (answerSettingsPropose p segment w s).state := by
  unfold answerSettingsPropose
  split
  · exact .same
  · rename_i k hs
    have hk := (segmentNamed_eq_some_iff.1 hs).2
    split
    · exact .same
    · rename_i hp
      have hp : p = k.upStation ∨ p = k.downStation := isEndOfSegment_iff.1 (by simpa using hp)
      split
      · exact .same
      · rename_i hx
        have hx : (settingsOf w).valid = true := by simpa using hx
        split
        · exact .proposed k _ hk hp hx
        · rename_i q hq
          split
          · exact .proposed k _ hk hp hx
          · split
            · exact .applied k q hk hq
            · exact .same

theorem answerSettingsAgree_answers (p : PortId) (segment : Byte) (w : SettingsWire) (s : State) :
    Answers p s (answerSettingsAgree p segment w s).state := by
  unfold answerSettingsAgree
  split
  · exact .same
  · rename_i k hs
    split
    · exact .same
    · split
      · exact .same
      · rename_i q hq
        split
        · exact .same
        · split
          · exact .applied k q (segmentNamed_eq_some_iff.1 hs).2 hq
          · exact .same

theorem answerSettingsWithdraw_answers (p : PortId) (segment : Byte) (s : State) :
    Answers p s (answerSettingsWithdraw p segment s).state := by
  unfold answerSettingsWithdraw
  split
  · exact .same
  · rename_i k hs
    split
    · exact .same
    · rename_i hp
      split
      · exact .same
      · split
        · exact .withdrawn k (segmentNamed_eq_some_iff.1 hs).2 (isEndOfSegment_iff.1 (by simpa using hp))
        · exact .same

theorem answerSettingsRead_answers (p : PortId) (segment : Byte) (s : State) :
    Answers p s (answerSettingsRead segment s).state := by
  unfold answerSettingsRead
  split <;> exact .same

theorem answerWatchClaim_answers (p : PortId) (s : State) : Answers p s (answerWatchClaim p s).state := by
  unfold answerWatchClaim
  split
  · exact .same
  · exact .watchOwned _ _ (.inl rfl)

theorem ownedCounter_ok {p : PortId} {index : Byte} {s : State} {i : WatchId} (h : ownedCounter p index s = .ok i) :
    (s.watch i).owner = some p := by
  unfold ownedCounter at h
  split at h
  · cases h
  · split at h
    · cases h
    · rename_i q ho
      split at h
      · rename_i hq
        cases h
        rw [ho, hq]
      · cases h

theorem answerWatchSet_answers (p : PortId) (index : Byte) (w : WatchWire) (s : State) :
    Answers p s (answerWatchSet p index w s).state := by
  unfold answerWatchSet
  split
  · exact .same
  · rename_i i hi
    split
    · exact .watchOwned _ _ (.inl (ownedCounter_ok hi))
    · exact .same

theorem answerWatchRelease_answers (p : PortId) (index : Byte) (s : State) :
    Answers p s (answerWatchRelease p index s).state := by
  unfold answerWatchRelease
  split
  · exact .same
  · exact .watchOwned _ _ (.inr rfl)

theorem answerWatchRead_answers (p : PortId) (index : Byte) (s : State) :
    Answers p s (answerWatchRead index s).state := by
  unfold answerWatchRead
  split <;> exact .same

theorem answerNoticeGet_answers (p : PortId) (s : State) : Answers p s (answerNoticeGet p s).state := by
  unfold answerNoticeGet
  split
  · rename_i x _ hu
    exact .noticeTaken _ _ (.inl ⟨x, hu, rfl⟩)
  · rename_i x _ hu hr
    exact .noticeTaken _ _ (.inr ⟨x, hu, rfl, hr⟩)
  · exact .same

theorem answerStationIn_answers (p : PortId) (s : State) : Answers p s (answerStationIn p s).state := by
  unfold answerStationIn
  split
  · exact .same
  · rename_i h
    exact .stationIn (by simpa using h)

theorem answerStationOut_answers (p : PortId) (s : State) : Answers p s (answerStationOut p s).state := by
  unfold answerStationOut
  split
  · exact .same
  · rename_i h
    exact .stationOut h

/-- Every request is answered with one of the changes of `Answers`. -/
theorem answerTo_answers (p : PortId) (r : Request) (s : State) : Answers p s (answerTo p r s).state := by
  cases r with
  | status => exact .same
  | stationIn => exact answerStationIn_answers p s
  | stationOut => exact answerStationOut_answers p s
  | reading v t rho flush fault => exact answerReading_answers p v t rho flush fault s
  | resolveAnswer tag mAns => exact answerResolve_answers p tag mAns s
  | bankWrite bank w => exact answerBankWrite_answers p bank w s
  | bankSelect bank => exact answerBankSelect_answers p bank s
  | bankRead station bank => exact answerBankRead_answers p station bank s
  | spanOpen j c => exact answerSpanOpen_answers p j c s
  | spanClose j => exact answerSpanClose_answers p j s
  | spanRead j => exact answerSpanRead_answers p j s
  | parcelList j start count => exact answerParcelList_answers p j start count s
  | verdictClear j => exact answerVerdictClear_answers p j s
  | settingsPropose k w => exact answerSettingsPropose_answers p k w s
  | settingsAgree k w => exact answerSettingsAgree_answers p k w s
  | settingsWithdraw k => exact answerSettingsWithdraw_answers p k s
  | settingsRead k => exact answerSettingsRead_answers p k s
  | watchClaim => exact answerWatchClaim_answers p s
  | watchSet i w => exact answerWatchSet_answers p i w s
  | watchRead i => exact answerWatchRead_answers p i s
  | watchRelease i => exact answerWatchRelease_answers p i s
  | watchFreeze => exact .watchesFrozen true
  | watchThaw => exact .watchesFrozen false
  | noticeGet => exact answerNoticeGet_answers p s

/-- What a command can make of a state. A request's block answers the state with the receiver back in HUNT, and the answer is
followed by one reply, in a place that is free. -/
inductive Steps (s : State) : State → Prop
  | same : Steps s s
  | reset : Steps s { State.reset with pending := s.pending }
  | accept (image : List Byte) (hc : s.config = .loading) (ha : imageAccepted image = true) : Steps s (s.accept image)
  | refuseImage (hc : s.config = .loading) : Steps s s.refuseImage
  | tick : Steps s { s with lineTime := s.lineTime + 1 }
  | silence (st : StationId) (hin : s.inService st = true) : Steps s (s.changeService st .stale none)
  | resolve (st : StationId) (r : Reading) (rest : List Reading) (c c' : Conversion) (m : Nat)
      (hq : (s.station st).queue = r :: rest) (hr : r.stage = .awaiting c) :
      Steps s (s.settleHead st { r with stage := .ready c' m } rest)
  | agreement (k : SegId) (q : Proposal) (hq : (s.segment k).proposal = some q) :
      Steps s ((s.removeProposal k).raiseSettings q.proposer k .expired)
  | holdEnds (j : SpanId) : Steps s (s.setSpan j { s.span j with hold := none })
  | tripFalls (p : PortId) (hc : s.config = .configured) : Steps s ((s.setPort p { s.port p with trip := .low }).trippedBy p)
  | tripReleased (p : PortId) : Steps s (s.setPort p { s.port p with trip := .high })
  | received (p : PortId) (rx : Receiver) : Steps s (s.setRx p rx)
  | replied (p : PortId) (kind : Byte) (code : Result) (hb : s.bufferFull p = false) :
      Steps s ((s.setRx p .hunt).reply p kind code .none)
  | answered (p : PortId) (r : Request) (t : State) (kind : Byte) (result : Result) (body : ReplyBody)
      (hb : s.bufferFull p = false) (hp : r = .status ∨ s.isConfigured p = true)
      (ht : t = (answerTo p r (s.setRx p .hunt)).state) : Steps s (t.reply p kind result body)
  | restarted (p : PortId) : Steps s ((s.setPort p (s.port p).restarted).setStation p (s.station p).queueDropped)
  | replySent (p : PortId) : Steps s (s.setPort p { s.port p with replies := (s.port p).replies.tail })
  | granted (p : PortId) (r : Reading) (c : Conversion) (m : Nat) (hr : (s.station p).readyHead = some (r, c, m)) :
      Steps s (s.applyGrant p r c m)

@[simp] theorem setRx_bufferFull (s : State) (p q : PortId) (rx : Receiver) :
    (s.setRx p rx).bufferFull q = s.bufferFull q := by
  by_cases h : q = p
  · subst h
    simp [State.bufferFull]
  · simp [State.bufferFull, h]

/-- A request is answered only at a port in use, unless it is STATUS. -/
theorem configured_of_screen {s : State} {p : PortId} {r : Request} (h : s.screen p r = none) :
    r = .status ∨ s.isConfigured p = true := by
  unfold State.screen at h
  split at h
  · exact .inl ‹_›
  · split at h
    · cases h
    · split at h
      · exact .inr ‹_›
      · cases h

theorem takeRequest_steps (s : State) (p : PortId) (r : Request) (hb : s.bufferFull p = false) :
    Steps s ((s.setRx p .hunt).takeRequest p r) := by
  unfold State.takeRequest
  split
  · exact .replied p _ _ hb
  · rename_i h
    exact .answered p r _ _ _ _ hb (configured_of_screen h) rfl

theorem completeRequest_steps (s : State) (p : PortId) (r : Request) : Steps s (s.completeRequest p r) := by
  unfold State.completeRequest
  split
  · split
    · exact .received p _
    · rename_i hb
      exact takeRequest_steps s p r (by simpa using hb)
  · exact .same

theorem offerFrame_steps (s : State) (p : PortId) (kind : Byte) (payload : List Byte) :
    Steps s ((s.setRx p .hunt).offerFrame p kind payload) := by
  unfold State.offerFrame
  rw [setRx_bufferFull]
  split
  · exact .received p _
  · rename_i hb
    have hb : s.bufferFull p = false := by simpa using hb
    split
    · split
      · exact takeRequest_steps s p _ hb
      · exact .replied p _ _ hb
    · exact .replied p _ _ hb

theorem abandonFrame_steps (s : State) (p : PortId) : Steps s (s.abandonFrame p) := by
  unfold State.abandonFrame
  split
  · exact .received p _
  · exact .same

theorem completeFrame_steps (s : State) (p : PortId) (data : List Byte) (check : BitVec 16) (low high : Byte) :
    Steps s (s.completeFrame p data check low high) := by
  unfold State.completeFrame
  split
  · split
    · exact .received p _
    · exact offerFrame_steps s p _ _
  · exact .received p _

theorem receive_steps (s : State) (p : PortId) (b : Byte) : Steps s (s.receive p b) := by
  unfold State.receive
  split
  · exact .same
  · exact .same
  · split
    · exact .received p _
    · exact .same
  · split <;> exact .received p _
  · split <;> exact .received p _
  · exact .received p _
  · exact completeFrame_steps s p _ _ _ _

theorem expireResolve_steps (s : State) (st : StationId) : Steps s (s.expireResolve st) := by
  unfold State.expireResolve
  split
  · exact .same
  · rename_i r rest hq
    split
    · rename_i c hr
      unfold lastGoodHold
      split <;> exact .resolve st r rest c _ _ hq hr
    · exact .same

theorem execGrant_steps {s t : State} (h : execGrant s = .next t) : Steps s t := by
  cases h
  split
  · exact .same
  · rename_i p _
    split
    · exact .same
    · rename_i r c m hr
      exact .granted p r c m hr

theorem execAgreementExpiry_steps {s t : State} {k : SegId} (h : execAgreementExpiry k s = .next t) : Steps s t := by
  cases h
  split
  · exact .same
  · rename_i q hq
    split
    · exact .agreement k q hq
    · exact .same

theorem execImageReadComplete_steps {s t : State} {memory : List Byte} (h : execImageReadComplete memory s = .next t) :
    Steps s t := by
  cases h
  split
  · exact .same
  · rename_i hc
    have hc := not_not.1 hc
    split
    · rename_i ha
      simp only [memoryAccepted, Bool.and_eq_true] at ha
      exact .accept _ hc ha.2
    · exact .refuseImage hc

/-- A step with a condition on it is the effect or nothing. -/
theorem Steps.ite {s t : State} {c : Prop} [Decidable c] (h : c → Steps s t) : Steps s (if c then t else s) := by
  split
  · exact h ‹_›
  · exact .same

/-- Every command makes one of the changes of `Steps`. -/
theorem exec_steps {c : Instr} {s t : State} (h : exec c s = .next t) : Steps s t := by
  cases c with
  | reset => cases h; exact .reset
  | imageReadComplete => exact execImageReadComplete_steps h
  | lineTimeTick => cases h; exact .ite fun _ => .tick
  | silenceExpiry st => cases h; exact .ite fun hs => .silence st hs.1
  | resolveExpiry st => cases h; exact .ite fun _ => expireResolve_steps s st
  | agreementExpiry => exact execAgreementExpiry_steps h
  | holdExpiry j => cases h; exact .ite fun _ => .holdEnds j
  | tripFallingEdge p => cases h; exact .ite fun hs => .tripFalls p hs.1
  | tripRelease p => cases h; exact .ite fun _ => .tripReleased p
  | frameGap p => cases h; exact abandonFrame_steps s p
  | framingError p => cases h; exact abandonFrame_steps s p
  | frameDiscard p => cases h; exact abandonFrame_steps s p
  | frameUnanswered p => cases h; exact .ite fun _ => abandonFrame_steps s p
  | unknownKind p kind => cases h; exact .ite fun _ => offerFrame_steps s p kind []
  | portRestart p =>
    cases h
    split
    · exact .same
    · exact .restarted p
  | replySent p => cases h; exact .replySent p
  | grant => exact execGrant_steps h
  | byteReceived p b => cases h; exact receive_steps s p b
  | returnToMark p => cases h; exact .ite fun _ => .received p _
  | _ => cases h; exact completeRequest_steps s _ _

/-- An invariant that every change of `Steps` keeps is one that every step keeps, if it does not speak of the queue of
commands. -/
theorem step_keeps_of_steps {Inv : State → Prop} (hq : ∀ s rest, Inv s → Inv { s with pending := rest })
    (h : ∀ s t, Inv s → Steps s t → Inv t) {s t : State} (hs : Inv s) (ht : step s = .next t) : Inv t :=
  step_keeps hq (fun _ _ _ hi he => h _ _ hi (exec_steps he)) s t hs ht

end Sys2Proof.Machine

end

section
/-! Notices: what one raising does to a port's queue (R174 to R176, R179), and what a run of raisings does. -/

namespace Sys2Proof.Machine

/-! The parts of a queue in which the raised key is held once. -/

section
variable {body : NoticeBody} {part before after : List Notice} {x : Notice}

theorem holdsKey_eq_false_iff {key : NoticeKey} : holdsKey key part = false ↔ ∀ n ∈ part, n.key ≠ key := by
  simp [holdsKey]

theorem updateHeld_of_notHeld (h : holdsKey body.key part = false) : updateHeld body part = part := by
  rw [holdsKey_eq_false_iff] at h
  unfold updateHeld
  conv_rhs => rw [← List.map_id part]
  exact List.map_congr_left fun n hn => by simp [h n hn]

theorem dropKey_of_notHeld {key : NoticeKey} (h : holdsKey key part = false) : dropKey key part = part := by
  rw [holdsKey_eq_false_iff] at h
  exact List.filter_eq_self.2 fun n hn => by simpa using h n hn

theorem filterKey_of_notHeld {key : NoticeKey} (h : holdsKey key part = false) :
    part.filter (fun n => n.key == key) = [] := by
  rw [holdsKey_eq_false_iff] at h
  exact List.filter_eq_nil_iff.2 fun n hn => by simpa using h n hn

theorem holdsKey_append {key : NoticeKey} (a b : List Notice) :
    holdsKey key (a ++ b) = (holdsKey key a || holdsKey key b) := by
  simp [holdsKey]

theorem holdsKey_split (hk : x.key = body.key) : holdsKey body.key (before ++ x :: after) = true :=
  (holdsKey_iff _ _).2 ⟨x, by simp, hk⟩

/-- In a part with one notice of the raised key, that one alone is updated. -/
theorem updateHeld_split (hk : x.key = body.key) (hb : holdsKey body.key before = false)
    (ha : holdsKey body.key after = false) :
    updateHeld body (before ++ x :: after) = before ++ x.coalesce body :: after := by
  have hs : updateHeld body (before ++ x :: after) =
      updateHeld body before ++ updateHeld body [x] ++ updateHeld body after := by simp [updateHeld]
  rw [hs, updateHeld_of_notHeld hb, updateHeld_of_notHeld ha]
  simp [updateHeld, hk]

theorem dropKey_split (hk : x.key = body.key) (hb : holdsKey body.key before = false)
    (ha : holdsKey body.key after = false) : dropKey body.key (before ++ x :: after) = before ++ after := by
  have hs : dropKey body.key (before ++ x :: after) =
      dropKey body.key before ++ dropKey body.key [x] ++ dropKey body.key after := by
    simp [dropKey, hk]
  rw [hs, dropKey_of_notHeld hb, dropKey_of_notHeld ha]
  simp [dropKey, hk]

theorem filterKey_split (hk : x.key = body.key) (hb : holdsKey body.key before = false)
    (ha : holdsKey body.key after = false) :
    (before ++ x :: after).filter (fun n => n.key == body.key) = [x] := by
  rw [List.filter_append, List.filter_cons, filterKey_of_notHeld hb, filterKey_of_notHeld ha]
  simp [hk]

end

/-! The keys of a port. -/

@[simp] theorem Port.withNotices_keys (p : Port) (u r : List Notice) :
    (p.withNotices u r).keys = u.map Notice.key ++ r.map Notice.key := by simp [Port.keys]

theorem Port.mem_keys {p : Port} {k : NoticeKey} :
    k ∈ p.keys ↔ holdsKey k p.urgent = true ∨ holdsKey k p.routine = true := by
  simp [Port.keys, holdsKey_iff]

theorem Port.notMem_keys {p : Port} {k : NoticeKey} :
    k ∉ p.keys ↔ holdsKey k p.urgent = false ∧ holdsKey k p.routine = false := by
  simp [Port.mem_keys]

/-- A raised key held in neither part joins the tail of the part of its urgency (R175). -/
theorem Port.raise_of_notHeld {p : Port} {body : NoticeBody} (urgent : Bool) (now : LineTime) (h : body.key ∉ p.keys) :
    p.raise body urgent now = p.withNotices (p.urgent ++ if urgent then [⟨body, now⟩] else [])
      (p.routine ++ if urgent then [] else [⟨body, now⟩]) := by
  obtain ⟨hu, hr⟩ := Port.notMem_keys.1 h
  cases urgent <;> simp [Port.raise, hu, hr]

/-- The keys after a raising are those before, in another order, with the raised key if it was not held. -/
theorem Port.raise_keys_perm (p : Port) (body : NoticeBody) (urgent : Bool) (now : LineTime) :
    (p.raise body urgent now).keys.Perm (p.keys ++ if body.key ∈ p.keys then [] else [body.key]) := by
  by_cases hu : holdsKey body.key p.urgent = true
  · have hm : body.key ∈ p.keys := Port.mem_keys.2 (.inl hu)
    rw [if_pos hm, List.append_nil]
    simp [Port.raise, hu, updateHeld_keys, Port.keys]
  by_cases hr : holdsKey body.key p.routine = true
  · have hm : body.key ∈ p.keys := Port.mem_keys.2 (.inr hr)
    rw [if_pos hm, List.append_nil]
    cases urgent with
    | false => simp [Port.raise, hu, hr, updateHeld_keys, Port.keys]
    | true =>
      have hp : (p.routine.filter (fun n => n.key == body.key) ++ dropKey body.key p.routine).Perm p.routine := by
        have := List.filter_append_perm (fun n : Notice => n.key == body.key) p.routine
        simpa [dropKey, bne] using this
      have he : (p.raise body true now).keys = p.urgent.map Notice.key ++
          ((p.routine.filter (fun n => n.key == body.key) ++ dropKey body.key p.routine).map Notice.key) := by
        simp [Port.raise, hu, hr, updateHeld_keys]
      rw [he]
      simpa [Port.keys] using (hp.map Notice.key).append_left (p.urgent.map Notice.key)
  · have hm : body.key ∉ p.keys := fun h => by
      obtain h | h := Port.mem_keys.1 h
      exacts [hu h, hr h]
    rw [if_neg hm, Port.raise_of_notHeld urgent now hm]
    cases urgent
    · simp [Port.keys, Notice.key]
    · simpa [Port.keys, Notice.key] using
        (List.perm_append_comm (l₁ := [body.key]) (l₂ := p.routine.map Notice.key)).append_left (p.urgent.map Notice.key)

theorem Port.mem_raise_keys {p : Port} {body : NoticeBody} {urgent : Bool} {now : LineTime} {k : NoticeKey} :
    k ∈ (p.raise body urgent now).keys ↔ k ∈ p.keys ∨ k = body.key := by
  rw [(p.raise_keys_perm body urgent now).mem_iff, List.mem_append]
  split
  · rename_i h
    refine ⟨fun hk => .inl (by simpa using hk), ?_⟩
    rintro (hk | rfl)
    exacts [.inl hk, .inl h]
  · simp

theorem Port.raise_keys_nodup {p : Port} (body : NoticeBody) (urgent : Bool) (now : LineTime) (h : p.keys.Nodup) :
    (p.raise body urgent now).keys.Nodup := by
  rw [(p.raise_keys_perm body urgent now).nodup_iff]
  split
  · simpa using h
  · rename_i hm
    exact List.nodup_append.2 ⟨h, by simp, by
      rintro a ha b hb rfl
      exact hm (List.mem_singleton.1 hb ▸ ha)⟩

/-- After a raising the attention line is low (R179). -/
theorem Port.raise_attn (p : Port) (body : NoticeBody) (urgent : Bool) (now : LineTime) :
    (p.raise body urgent now).attn = .low := by
  have hne : (p.raise body urgent now).keys ≠ [] := fun h => by
    have hm : body.key ∈ (p.raise body urgent now).keys := Port.mem_raise_keys.2 (.inr rfl)
    simp [h] at hm
  obtain e | ⟨-, e⟩ | e | e | e := p.raise_cases body urgent now <;> rw [e] at hne ⊢ <;>
    exact (Port.withNotices_attn _ _ _).2 fun h => hne (by rw [Port.withNotices_keys, ← List.map_append, h]; rfl)

/-! A raised key that is held once (R176). -/

section
variable {p : Port} {body : NoticeBody} {x : Notice} {before after : List Notice}

theorem notHeld_of_nodup {k : NoticeKey} {a b c d : List Notice} (h : ((a ++ b ++ x :: c ++ d).map Notice.key).Nodup)
    (hk : x.key = k) : holdsKey k a = false ∧ holdsKey k b = false ∧ holdsKey k c = false ∧ holdsKey k d = false := by
  simp only [holdsKey_eq_false_iff]
  have hp : ((a ++ b ++ x :: c ++ d).map Notice.key).Perm (k :: (a ++ b ++ c ++ d).map Notice.key) := by
    rw [← hk, ← List.map_cons]
    refine List.Perm.map _ ?_
    simpa using (List.perm_middle (l₁ := a ++ b) (l₂ := c ++ d) (a := x))
  rw [hp.nodup_iff, List.nodup_cons] at h
  have hm : ∀ n ∈ a ++ b ++ c ++ d, n.key ≠ k := fun n hn he => h.1 (List.mem_map.2 ⟨n, hn, he⟩)
  simp only [List.mem_append] at hm
  exact ⟨fun n hn => hm n (.inl (.inl (.inl hn))), fun n hn => hm n (.inl (.inl (.inr hn))),
    fun n hn => hm n (.inl (.inr hn)), fun n hn => hm n (.inr hn)⟩

theorem Port.raise_of_heldUrgent (urgent : Bool) (now : LineTime) (hn : p.keys.Nodup) (hk : x.key = body.key)
    (hp : p.urgent = before ++ x :: after) :
    p.raise body urgent now = p.withNotices (before ++ x.coalesce body :: after) p.routine := by
  obtain ⟨hb, -, ha, -⟩ := notHeld_of_nodup (a := before) (b := []) (c := after) (d := p.routine)
    (by simpa [Port.keys, hp] using hn) hk
  simp only [Port.raise, hp, holdsKey_split hk, if_true, updateHeld_split hk hb ha]

theorem Port.raise_of_heldRoutine (urgent : Bool) (now : LineTime) (hn : p.keys.Nodup) (hk : x.key = body.key)
    (hp : p.routine = before ++ x :: after) :
    p.raise body urgent now = if urgent then p.withNotices (p.urgent ++ [x.coalesce body]) (before ++ after)
      else p.withNotices p.urgent (before ++ x.coalesce body :: after) := by
  obtain ⟨hu, hb, ha, -⟩ := notHeld_of_nodup (a := p.urgent) (b := before) (c := after) (d := [])
    (by simpa [Port.keys, hp] using hn) hk
  have hx : updateHeld body [x] = [x.coalesce body] := by simp [updateHeld, hk]
  simp only [Port.raise, hu, hp, holdsKey_split hk, if_true, updateHeld_split hk hb ha, filterKey_split hk hb ha,
    dropKey_split hk hb ha, hx]
  simp

/-- The one notice of the raised key keeps its line time and, for VERDICT, its "from" (R176). -/
theorem Notice.coalesce_eq {y : Notice} (ht : y.raisedAt = x.raisedAt)
    (hb : y.body = match x.body, body with
      | .verdict _ b _, .verdict j _ a => .verdict j b a
      | _, _ => body) : x.coalesce body = y := by
  obtain ⟨yb, yt⟩ := y
  simp only at ht hb
  subst ht hb
  exact congrArg (Notice.mk · x.raisedAt) rfl

end

end Sys2Proof.Machine

open Sys2Proof Sys2Proof.Machine

/-- Settles O49: a key not held joins its part; the one notice of a key that is held is updated where it stands, or moves from
the ROUTINE part to the tail of the URGENT one. -/
theorem noticeRaisedOrUpdated : Obligations.NoticeRaisedOrUpdated := by
  unfold Obligations.NoticeRaisedOrUpdated
  rintro p _ body urgent now hn rfl
  refine ⟨p.raise_attn body urgent now, p.raise_linkOf body urgent now, Port.raise_keys_nodup body urgent now hn,
    fun h => ?joins, fun x before after y hk ht hb => ?held⟩
  case joins =>
    rw [Port.raise_of_notHeld urgent now h]
    exact ⟨rfl, rfl⟩
  case held =>
    have hy := Notice.coalesce_eq ht hb
    refine ⟨fun hp => ?_, fun hp hu => ?_, fun hp hu => ?_⟩
    · rw [Port.raise_of_heldUrgent urgent now hn hk hp, hy]
      exact ⟨rfl, rfl⟩
    · subst hu
      rw [Port.raise_of_heldRoutine false now hn hk hp, hy]
      exact ⟨rfl, rfl⟩
    · subst hu
      rw [Port.raise_of_heldRoutine true now hn hk hp, hy]
      exact ⟨rfl, rfl⟩

end

section
/-! Runs of notices, and the ports through every operation of the engine, the span table and the segment table: what they do
to ports is to raise notices. -/

namespace Sys2Proof.Machine

/-- A port after notices raised to it in order, each body with whether it is URGENT. -/
def Port.raiseAll (p : Port) (now : LineTime) (xs : List (NoticeBody × Bool)) : Port :=
  xs.foldl (fun q x => q.raise x.1 x.2 now) p

section
variable (p : Port) (now : LineTime) (xs ys : List (NoticeBody × Bool))

@[simp] theorem Port.raiseAll_nil : p.raiseAll now [] = p := rfl

@[simp] theorem Port.raiseAll_cons (x : NoticeBody × Bool) :
    p.raiseAll now (x :: xs) = (p.raise x.1 x.2 now).raiseAll now xs := rfl

theorem Port.raiseAll_append : p.raiseAll now (xs ++ ys) = (p.raiseAll now xs).raiseAll now ys := List.foldl_append

@[simp] theorem Port.raiseAll_linkOf : (p.raiseAll now xs).linkOf = p.linkOf := by
  induction xs generalizing p with
  | nil => rfl
  | cons x xs ih => rw [Port.raiseAll_cons, ih, Port.raise_linkOf]

theorem Port.raiseAll_replies : (p.raiseAll now xs).replies = p.replies :=
  congrArg (fun l => l.2.2.1) (p.raiseAll_linkOf now xs)

theorem Port.mem_raiseAll_keys {k : NoticeKey} :
    k ∈ (p.raiseAll now xs).keys ↔ k ∈ p.keys ∨ ∃ x ∈ xs, x.1.key = k := by
  induction xs generalizing p with
  | nil => simp
  | cons x xs ih =>
    rw [Port.raiseAll_cons, ih, Port.mem_raise_keys]
    simp [or_assoc, eq_comm]

theorem Port.raiseAll_keys_nodup (h : p.keys.Nodup) : (p.raiseAll now xs).keys.Nodup := by
  induction xs generalizing p with
  | nil => exact h
  | cons x xs ih => exact ih _ (Port.raise_keys_nodup x.1 x.2 now h)

/-- The attention line follows the queue through a run of notices (R179). -/
theorem Port.raiseAll_attn (h : p.attn = .low ↔ p.keys ≠ []) :
    (p.raiseAll now xs).attn = .low ↔ (p.raiseAll now xs).keys ≠ [] := by
  induction xs generalizing p with
  | nil => exact h
  | cons x xs ih =>
    refine ih _ ⟨fun _ hk => ?_, fun _ => p.raise_attn x.1 x.2 now⟩
    have hm : x.1.key ∈ (p.raise x.1 x.2 now).keys := Port.mem_raise_keys.2 (.inr rfl)
    simp [hk] at hm

end

/-! The set-up through an operation. -/

section
variable {s t u : State}

theorem State.sameSetUp_refl (s : State) : s.sameSetUp s := ⟨rfl, rfl, rfl, rfl, rfl, rfl, rfl, rfl, rfl, rfl⟩

theorem State.sameSetUp_trans (h : s.sameSetUp t) (k : t.sameSetUp u) : s.sameSetUp u := by
  simp only [State.sameSetUp] at h k ⊢
  obtain ⟨a, b, c, d, e, f, g, i, j, l⟩ := h
  simp only [k, a, b, c, d, e, f, g, i, j, l, and_self]

theorem State.sameSetUp.n_eq (h : s.sameSetUp t) : t.n = s.n := h.2.1

theorem State.sameSetUp.lineTime_eq (h : s.sameSetUp t) : t.lineTime = s.lineTime := h.2.2.1

theorem NoticesOnly.sameSetUp (h : NoticesOnly s t) : s.sameSetUp t := by
  rw [h.rest]
  exact s.sameSetUp_refl

theorem StoreOnly.sameSetUp (h : StoreOnly s t) : s.sameSetUp t := by
  rw [h.rest]
  exact s.sameSetUp_refl

end

/-! Raisings alone. -/

/-- A state whose ports are those of another after notices of allowed keys raised to them, with the set-up as it stands. -/
structure Raises (P : PortId → NoticeKey → Prop) (s t : State) : Prop where
  ports : ∀ q, ∃ xs : List (NoticeBody × Bool), (∀ x ∈ xs, P q x.1.key) ∧ t.port q = (s.port q).raiseAll s.lineTime xs
  setUp : s.sameSetUp t

/-- The keys that the engine and the span table raise are allowed: those of a present span at its ends and at the ports below N,
where re-derivation may put the ends, and that of a counter at its owner. -/
structure Allows (P : PortId → NoticeKey → Prop) (s : State) : Prop where
  ends : ∀ j l, (s.span j).line = some l → ∀ q, q = l.upstream ∨ q = j.downStation → P q (.verdict j) ∧ P q (.span j)
  below : ∀ (q : PortId) j, q.val < s.n → P q (.verdict j) ∧ P q (.span j)
  watches : ∀ i q, (s.watch i).owner = some q → P q (.watch i)

section
variable {P : PortId → NoticeKey → Prop} {s t u : State}

theorem Raises.of_ports (h : t.ports = s.ports) (hs : s.sameSetUp t) : Raises P s t :=
  ⟨fun q => ⟨[], by simp, by simp [State.port, h]⟩, hs⟩

theorem Raises.refl (s : State) : Raises P s s := .of_ports rfl s.sameSetUp_refl

theorem Raises.trans (h : Raises P s t) (k : Raises P t u) : Raises P s u := by
  refine ⟨fun q => ?_, State.sameSetUp_trans h.setUp k.setUp⟩
  obtain ⟨xs, hx, hp⟩ := h.ports q
  obtain ⟨ys, hy, hq⟩ := k.ports q
  refine ⟨xs ++ ys, fun x hm => (List.mem_append.1 hm).elim (hx x) (hy x), ?_⟩
  rw [hq, hp, h.setUp.lineTime_eq, ← Port.raiseAll_append]

/-! Updates of other records than ports. -/

theorem silent_setSpan (j : SpanId) (x : Span) : Raises P s (s.setSpan j x) := .of_ports rfl s.sameSetUp_refl
theorem silent_setQueue (j : SpanId) (x : List Parcel) : Raises P s (s.setQueue j x) := .of_ports rfl s.sameSetUp_refl
theorem silent_setFree (x : List Nat) : Raises P s (s.setFree x) := .of_ports rfl s.sameSetUp_refl
theorem silent_setStation (st : StationId) (x : Station) : Raises P s (s.setStation st x) :=
  .of_ports rfl s.sameSetUp_refl
theorem silent_setSegment (k : SegId) (x : Segment) : Raises P s (s.setSegment k x) := .of_ports rfl s.sameSetUp_refl
theorem silent_setWatches (x : Octet Watch) : Raises P s (s.setWatches x) := .of_ports rfl s.sameSetUp_refl
theorem silent_setWatch (i : WatchId) (x : Watch) : Raises P s (s.setWatch i x) := silent_setWatches _
theorem silent_rederive (j : SpanId) : Raises P s (s.rederive j) := silent_setSpan _ _
theorem silent_restartSpan (j : SpanId) : Raises P s (s.restartSpan j) := silent_setSpan _ _
theorem silent_rederiveAll : Raises P s s.rederiveAll :=
  ((silent_rederive _).trans (silent_rederive _)).trans (silent_rederive _)
theorem silent_append (j : SpanId) (p : Parcel) : Raises P s (s.append j p) := silent_setQueue _ _
theorem silent_drained (j : SpanId) (d : DrainReport) : Raises P s (s.drained j d) :=
  (silent_setQueue _ _).trans (silent_setFree _)
theorem silent_release (j : SpanId) : Raises P s (s.release j) := (silent_setFree _).trans (silent_setQueue _ _)
theorem silent_divert (up down : SpanId) : Raises P s (s.divert up down) :=
  (silent_setQueue _ _).trans (silent_setQueue _ _)

theorem raises_raise (p : PortId) (body : NoticeBody) (urgent : Bool) (h : P p body.key) :
    Raises P s (s.raise p body urgent) := by
  refine ⟨fun q => ?_, (noticesOnly_raise _ _ _ _).sameSetUp⟩
  by_cases hq : q = p
  · subst hq
    exact ⟨[(body, urgent)], by simpa using h, by simp⟩
  · exact ⟨[], by simp, by simp [hq]⟩

/-! What keeps `Allows`. -/

theorem Allows.congr (h : Allows P s) (hn : t.n = s.n) (hw : ∀ i, (t.watch i).owner = (s.watch i).owner)
    (hl : ∀ j l, (t.span j).line = some l → (s.span j).line = some l ∨ l.upstream.val < j.num ∧ j.num < s.n) :
    Allows P t := by
  refine ⟨fun j l hj q hq => ?_, fun q j hq => h.below q j (hn ▸ hq), fun i q hi => h.watches i q (hw i ▸ hi)⟩
  obtain hs | ⟨hu, hd⟩ := hl j l hj
  · exact h.ends j l hs q hq
  · refine h.below q j ?_
    obtain rfl | rfl := hq
    · omega
    · cases j <;> exact hd

theorem Allows.of_same (h : Allows P s) (hn : t.n = s.n) (hw : ∀ i, (t.watch i).owner = (s.watch i).owner)
    (hs : t.spans = s.spans) : Allows P t :=
  h.congr hn hw fun j l hl => .inl (by simpa [State.span, hs] using hl)

theorem NoticesOnly.allows (hn : NoticesOnly s t) (h : Allows P s) : Allows P t :=
  h.of_same hn.sameSetUp.n_eq (fun i => by rw [hn.rest]; rfl) hn.same.2.2.2.2.2.2.1

theorem owner_of_setting {w v : Watch} (h : w.setting = v.setting) : w.owner = v.owner := congrArg Prod.fst h

theorem StoreOnly.allows (hs : StoreOnly s t) (h : Allows P s) : Allows P t :=
  h.of_same hs.sameSetUp.n_eq (fun i => owner_of_setting (hs.setting i)) hs.same.2.2.2.2.1

theorem SamplesOnly.allows (hs : SamplesOnly s t) (h : Allows P s) : Allows P t := hs.storeOnly.allows h

/-- A span record replaced by one with the same line, or with none. -/
theorem Allows.setSpan {j : SpanId} {x : Span} (h : Allows P s) (hx : x.line = (s.span j).line ∨ x.line = none) :
    Allows P (s.setSpan j x) := by
  refine h.congr rfl (fun _ => rfl) fun i l hl => .inl ?_
  by_cases hi : i = j
  · subst hi
    rw [setSpan_span_same] at hl
    obtain hx | hx := hx
    · rwa [← hx]
    · rw [hx] at hl
      cases hl
  · rwa [setSpan_span_ne _ _ _ hi] at hl

theorem lineOf_bounds {j : SpanId} {l : SpanLine} (h : s.lineOf j = some l) : l.upstream.val < j.num ∧ j.num < s.n := by
  obtain ⟨he, rfl⟩ := lineOf_some h
  exact ⟨derivedLine_upstream_lt s j, isSpanEnd_lt he⟩

theorem Allows.rederiveAll (h : Allows P s) : Allows P s.rederiveAll :=
  h.congr rfl (fun _ => rfl) fun j l hl => .inr (lineOf_bounds (by simpa [rederiveAll_span] using hl))

theorem Allows.rederive (j : SpanId) (h : Allows P s) : Allows P (s.rederive j) := by
  refine h.congr rfl (fun _ => rfl) fun i l hl => ?_
  rw [rederive_span] at hl
  split at hl
  · rename_i hi
    subst hi
    exact .inr (lineOf_bounds hl)
  · exact .inl hl

/-! Notices to the ends of a span. -/

theorem raises_raiseToEnds (j : SpanId) (body : NoticeBody) (urgent : Bool)
    (h : ∀ l, (s.span j).line = some l → P l.upstream body.key ∧ P j.downStation body.key) :
    Raises P s (s.raiseToEnds j body urgent) := by
  unfold State.raiseToEnds
  split
  · exact .refl s
  · rename_i l hl
    exact (raises_raise _ _ _ (h l hl).1).trans (raises_raise _ _ _ (h l hl).2)

theorem raises_raiseSpan (j : SpanId) (event : SpanEvent) (h : Allows P s) : Raises P s (s.raiseSpan j event) :=
  raises_raiseToEnds j _ _ fun l hl => ⟨(h.ends j l hl _ (.inl rfl)).2, (h.ends j l hl _ (.inr rfl)).2⟩

theorem raises_announceVerdict (j : SpanId) (before : Verdict) (h : Allows P s) :
    Raises P s (s.announceVerdict j before) := by
  unfold State.announceVerdict
  split
  · exact .refl s
  · exact raises_raiseToEnds j _ _ fun l hl => ⟨(h.ends j l hl _ (.inl rfl)).1, (h.ends j l hl _ (.inr rfl)).1⟩

theorem raises_raiseSpan_announceVerdict (j : SpanId) (event : SpanEvent) (before : Verdict) (h : Allows P s) :
    Raises P s ((s.raiseSpan j event).announceVerdict j before) :=
  (raises_raiseSpan j event h).trans (raises_announceVerdict j before ((noticesOnly_raiseSpan _ _ _).allows h))

theorem raises_announceVerdict_raiseSpan (j : SpanId) (event : SpanEvent) (before : Verdict) (h : Allows P s) :
    Raises P s ((s.announceVerdict j before).raiseSpan j event) :=
  (raises_announceVerdict j before h).trans (raises_raiseSpan j event ((noticesOnly_announceVerdict _ _ _).allows h))

/-! Samples and the store. -/

theorem raises_onOverflow (i : WatchId) (w : Watch) (h : ∀ q, w.owner = some q → P q (.watch i)) :
    Raises P s (s.onOverflow i w) := by
  unfold State.onOverflow
  split
  · exact .refl s
  · rename_i q hq
    have hn : Raises P s (if w.notify then s.raise q (.watch i w.value) false else s) := by
      split
      · exact raises_raise _ _ _ (h q hq)
      · exact .refl s
    simp only
    split
    · exact hn.trans (silent_setWatches _)
    · exact hn

theorem raises_offerTo (x : Sample) (i : WatchId) (h : Allows P s) : Raises P s (s.offerTo x i) := by
  unfold State.offerTo
  simp only
  split
  · have hw : Raises P s (s.setWatch i ((s.watch i).take x.value)) := silent_setWatch _ _
    split
    · exact hw.trans (raises_onOverflow _ _ fun q hq => h.watches i q hq)
    · exact hw
  · exact .refl s

theorem raises_foldl {α : Type} {f : State → α → State} (hf : ∀ s a, Allows P s → Raises P s (f s a) ∧ Allows P (f s a))
    (xs : List α) (h : Allows P s) : Raises P s (xs.foldl f s) := by
  induction xs generalizing s with
  | nil => exact .refl s
  | cons a xs ih => exact (hf s a h).1.trans (ih (hf s a h).2)

theorem raises_offer (x : Sample) (h : Allows P s) : Raises P s (s.offer x) :=
  raises_foldl (fun _ _ ht => ⟨raises_offerTo _ _ ht, (samplesOnly_offerTo _ _ _).allows ht⟩) _ h

theorem raises_offerAll (xs : List Sample) (h : Allows P s) : Raises P s (s.offerAll xs) :=
  raises_foldl (fun _ _ ht => ⟨raises_offer _ ht, (samplesOnly_offer _ _).allows ht⟩) _ h

theorem raises_reclaim (h : Allows P s) : Raises P s s.reclaim := by
  unfold State.reclaim
  split
  · exact ((silent_setQueue _ _).trans (silent_setFree _)).trans (raises_offer _ (h.of_same rfl (fun _ => rfl) rfl))
  · exact .refl s

theorem raises_takeFree : Raises P s s.takeFree.2 := by
  unfold State.takeFree
  split
  · exact .refl s
  · exact silent_setFree _

theorem raises_allocate (h : Allows P s) : Raises P s s.allocate.2 := by
  unfold State.allocate
  split
  · exact (raises_reclaim h).trans raises_takeFree
  · exact raises_takeFree

theorem raises_splitQueue (k j : SpanId) (r : Nat) (h : Allows P s) : Raises P s (s.splitQueue k j r) := by
  unfold State.splitQueue
  split
  · exact (silent_setQueue _ _).trans (silent_setQueue _ _)
  · have ha := raises_allocate h
    simp only
    split
    · exact (ha.trans (silent_setQueue _ _)).trans (silent_setQueue _ _)
    · exact ((ha.trans (silent_setQueue _ _)).trans (silent_setQueue _ _)).trans (silent_setFree _)

/-! The balance engine. -/

theorem weighed_line (sp : Span) (d : DrainReport) (v m vel : Nat) : (sp.weighed d v m vel).line = sp.line := by
  simp only [Span.weighed, Span.pushEntry, Span.addEntry, Span.dropOldest]
  split
  · rfl
  · split <;> rfl

theorem judged_line (sp : Span) (t : Thresholds) (f : Flags) (taint : Bool) : (sp.judged t f taint).line = sp.line := by
  simp only [Span.judged, Span.derive]
  split <;> rfl

theorem raises_balanceUpdate (j : SpanId) (l : SpanLine) (c : Conversion) (m : Nat) (h : Allows P s) :
    Raises P s (s.balanceUpdate j l c m) := by
  have ha := ((storeOnly_drained s j (drainQueue c.v (s.queue j))).allows h).setSpan (j := j)
    (x := ((s.span j).weighed (drainQueue c.v (s.queue j)) c.v m (velocity c.v (s.segment l.last).area c.tC)).judged l.thr
      c.flags (drainQueue c.v (s.queue j)).taint)
    (.inl (by rw [judged_line, weighed_line]; rfl))
  exact (((silent_drained _ _).trans (silent_setSpan _ _)).trans (raises_announceVerdict j _ ha)).trans
    (raises_offerAll _ ((noticesOnly_announceVerdict _ _ _).allows ha))

theorem raises_inflowTo (j : SpanId) (l : SpanLine) (st : StationId) (b : BankId) (c : Conversion) (m : Nat)
    (h : Allows P s) : Raises P s (s.inflowTo j l st b c m) := by
  unfold State.inflowTo
  split
  · exact silent_setSpan _ _
  · have ha := (storeOnly_allocate s).allows h
    exact (((raises_allocate h).trans (silent_append _ _)).trans (silent_setSpan _ _)).trans
      (raises_offer _ (((storeOnly_append _ _ _).allows ha).setSpan (.inl (by rfl))))

theorem raises_outflowSide (st : StationId) (c : Conversion) (m : Nat) (h : Allows P s) :
    Raises P s (s.outflowSide st c m) := by
  obtain e | ⟨j, l, -, -, -, e⟩ := outflowSide_cases s st c m <;> rw [e]
  · exact .refl s
  · exact raises_balanceUpdate j l c m h

theorem raises_inflowSide (st : StationId) (b : BankId) (c : Conversion) (m : Nat) (h : Allows P s) :
    Raises P s (s.inflowSide st b c m) := by
  obtain e | ⟨j, l, -, -, -, e⟩ := inflowSide_cases s st b c m <;> rw [e]
  · exact .refl s
  · exact raises_inflowTo j l st b c m h

theorem balanceUpdate_allows (j : SpanId) (l : SpanLine) (c : Conversion) (m : Nat) (h : Allows P s) :
    Allows P (s.balanceUpdate j l c m) :=
  (balanceUpdate_samplesOnly s j l c m).allows
    (((storeOnly_drained _ _ _).allows h).setSpan (.inl (by rw [judged_line, weighed_line]; rfl)))

theorem outflowSide_allows (st : StationId) (c : Conversion) (m : Nat) (h : Allows P s) :
    Allows P (s.outflowSide st c m) := by
  obtain e | ⟨j, l, -, -, -, e⟩ := outflowSide_cases s st c m <;> rw [e]
  · exact h
  · exact balanceUpdate_allows j l c m h

theorem inflowTo_allows (j : SpanId) (l : SpanLine) (st : StationId) (b : BankId) (c : Conversion) (m : Nat)
    (h : Allows P s) : Allows P (s.inflowTo j l st b c m) := by
  by_cases hv : c.v = 0
  · rw [inflowTo_idle _ _ _ _ _ _ _ hv]
    exact h.setSpan (.inl rfl)
  · exact (inflowTo_samplesOnly s j l st b c m hv).allows
      ((((storeOnly_allocate s).trans (storeOnly_append _ _ _)).allows h).setSpan (.inl rfl))

theorem inflowSide_allows (st : StationId) (b : BankId) (c : Conversion) (m : Nat) (h : Allows P s) :
    Allows P (s.inflowSide st b c m) := by
  obtain e | ⟨j, l, -, -, -, e⟩ := inflowSide_cases s st b c m <;> rw [e]
  · exact h
  · exact inflowTo_allows j l st b c m h

/-! Readings. -/

theorem raises_raiseResolve (st : StationId) (r : Reading) (c : Conversion) (h : Allows P s) (hst : P st (.resolve st)) :
    Raises P s (s.raiseResolve st r c) := by
  have ha : Allows P (s.setStation st { s.station st with resolve := some (expiryAfter s.lineTime s.tRes) }) :=
    h.of_same rfl (fun _ => rfl) rfl
  exact ((silent_setStation _ _).trans (raises_raise _ _ _ hst)).trans
    (raises_offer _ ((noticesOnly_raise _ _ _ _).allows ha))

theorem raises_convertHead (st : StationId) (h : Allows P s) (hst : (s.station st).queue ≠ [] → P st (.resolve st)) :
    Raises P s (s.convertHead st) := by
  unfold State.convertHead
  split
  · exact .refl s
  · rename_i r rest hq
    have ha : ∀ x, Allows P (s.setStation st x) := fun x => h.of_same rfl (fun _ => rfl) rfl
    simp only
    split
    · exact (silent_setStation _ _).trans (raises_raiseResolve st r _ (ha _) (hst (by simp [hq])))
    · exact silent_setStation _ _

theorem raises_removeHead (st : StationId) (h : Allows P s) (hst : (s.station st).queue ≠ [] → P st (.resolve st)) :
    Raises P s (s.removeHead st) := by
  refine (silent_setStation st { s.station st with queue := (s.station st).queue.tail }).trans
    (raises_convertHead st (h.of_same rfl (fun _ => rfl) rfl) fun hq => hst fun he => hq ?_)
  simp [he]

theorem outflowSide_stations (s : State) (st : StationId) (c : Conversion) (m : Nat) :
    (s.outflowSide st c m).stations = s.stations := by
  obtain e | ⟨j, l, -, -, -, e⟩ := outflowSide_cases s st c m <;> rw [e]
  exact (balanceUpdate_samplesOnly s j l c m).same.2.2.2.1

theorem inflowSide_stations (s : State) (st : StationId) (b : BankId) (c : Conversion) (m : Nat) :
    (s.inflowSide st b c m).stations = s.stations := by
  obtain e | ⟨j, l, -, -, -, e⟩ := inflowSide_cases s st b c m <;> rw [e]
  by_cases hv : c.v = 0
  · rw [inflowTo_idle _ _ _ _ _ _ _ hv]
    rfl
  · rw [(inflowTo_samplesOnly s j l st b c m hv).same.2.2.2.1]
    exact (storeOnly_allocate s).same.2.2.2.1

theorem raises_applyGrant {p : PortId} {r : Reading} {c : Conversion} {m : Nat} (h : Allows P s)
    (hst : (s.station p).queue ≠ [] → P p (.resolve p)) :
    Raises P { s with lastGranted := some p } (s.applyGrant p r c m) := by
  have h0 : Allows P { s with lastGranted := some p } := h.of_same rfl (fun _ => rfl) rfl
  have h1 := outflowSide_allows p c m h0
  refine ((raises_outflowSide p c m h0).trans (raises_inflowSide p r.bank c m h1)).trans
    (raises_removeHead p (inflowSide_allows p r.bank c m h1) fun hq => hst ?_)
  rwa [State.station, inflowSide_stations, outflowSide_stations] at hq

/-! The span table. -/

theorem raises_openSpan (j : SpanId) (l : SpanLine) (cFill : Nat) (h : Allows P s) : Raises P s (s.openSpan j l cFill) := by
  have ha := (storeOnly_allocate s).allows h
  exact (((raises_allocate h).trans (silent_append _ _)).trans (silent_setSpan _ _)).trans
    (raises_raiseSpan_announceVerdict j _ _ (((storeOnly_append _ _ _).allows ha).setSpan (.inl (by rfl))))

theorem raises_closeSpan (j : SpanId) (h : Allows P s) : Raises P s (s.closeSpan j) :=
  ((silent_release _).trans (silent_setSpan _ _)).trans
    (raises_announceVerdict_raiseSpan j _ _ (((storeOnly_release s j).allows h).setSpan (.inl (by rfl))))

theorem raises_suspendSpan (j : SpanId) (h : Allows P s) : Raises P s (s.suspendSpan j) := by
  unfold State.suspendSpan
  split
  · exact (silent_setSpan _ _).trans (raises_raiseSpan_announceVerdict j _ _ (h.setSpan (.inl (by rfl))))
  · exact .refl s

theorem raises_resumeSpan (j : SpanId) (h : Allows P s) : Raises P s (s.resumeSpan j) := by
  unfold State.resumeSpan
  split
  · exact .refl s
  · split
    · exact (silent_setSpan _ _).trans (raises_raiseSpan_announceVerdict j _ _ (h.setSpan (.inl (by rfl))))
    · exact .refl s

theorem silent_releaseUnless (j : SpanId) (c : Prop) [Decidable c] : Raises P s (if c then s else s.release j) := by
  split
  · exact .refl s
  · exact silent_release j

theorem storeOnly_releaseUnless (s : State) (j : SpanId) (c : Prop) [Decidable c] :
    StoreOnly s (if c then s else s.release j) := by
  split
  · exact .refl s
  · exact storeOnly_release s j

/-- Two span records replaced, one after the other, by records with the lines that the spans had, or with none. -/
theorem Allows.setSpan_setSpan {k j : SpanId} {x y : Span} (h : Allows P u)
    (hx : x.line = (u.span k).line ∨ x.line = none) (hy : y.line = (u.span j).line) :
    Allows P ((u.setSpan k x).setSpan j y) := by
  refine h.congr rfl (fun _ => rfl) fun i l hl => .inl ?_
  by_cases hi : i = j
  · subst hi
    rwa [setSpan_span_same, hy] at hl
  · rw [setSpan_span_ne _ _ _ hi] at hl
    by_cases hk : i = k
    · subst hk
      rw [setSpan_span_same] at hl
      obtain hx | hx := hx
      · rwa [hx] at hl
      · rw [hx] at hl
        cases hl
    · rwa [setSpan_span_ne _ _ _ hk] at hl

theorem raises_mergeClosed (k j : SpanId) (h : Allows P s) : Raises P s (s.mergeClosed k j) := by
  have hs := (storeOnly_releaseUnless s k ((s.span k).state = .closed)).trans
    (storeOnly_releaseUnless _ j ((s.span j).state = .closed))
  have hspan : (s.span j).line = (State.span _ j).line := congrArg (fun x => (Trio.get x j).line) hs.same.2.2.2.2.1.symm
  have ha := (hs.allows h).setSpan_setSpan (k := k) (x := Span.blank) (y := (s.span j).closedOf) (.inr rfl) hspan
  exact (((((silent_releaseUnless _ _).trans (silent_releaseUnless _ _)).trans (silent_setSpan _ _)).trans
    (silent_setSpan _ _)).trans silent_rederiveAll).trans (raises_announceVerdict_raiseSpan j _ _ ha.rederiveAll)

/-- The restart of a span keeps its line. -/
theorem Allows.restartSpan (h : Allows P s) (j : SpanId) : Allows P (s.restartSpan j) := h.setSpan (.inl rfl)

theorem raises_mergeOpen (k j : SpanId) (h : Allows P s) : Raises P s (s.mergeOpen k j) := by
  have ha : Allows P (((s.divert k j).setSpan k Span.blank).setSpan j ((s.span j).mergedWith (s.span k) s.lineTime)) :=
    ((storeOnly_divert s k j).allows h).setSpan_setSpan (.inr rfl) rfl
  exact (((((silent_divert _ _).trans (silent_setSpan _ _)).trans (silent_setSpan _ _)).trans silent_rederiveAll).trans
    (silent_restartSpan _)).trans (raises_raiseSpan_announceVerdict j _ _ (ha.rederiveAll.restartSpan j))

theorem raises_splitClosed (k j : SpanId) (h : Allows P s) : Raises P s (s.splitClosed k j) := by
  have ha : Allows P (s.setSpan k Span.blank).rederiveAll := Allows.rederiveAll (h.setSpan (.inr rfl))
  exact (((silent_setSpan _ _).trans silent_rederiveAll).trans (raises_raiseSpan k _ ha)).trans
    (raises_raiseSpan j _ ((noticesOnly_raiseSpan _ _ _).allows ha))

/-- The SPAN notices of both halves of a split, then their VERDICT notices. -/
theorem raises_splitNotices (k j : SpanId) (before : Verdict) (h : Allows P s) :
    Raises P s ((((s.raiseSpan k .split).raiseSpan j .split).announceVerdict k before).announceVerdict j before) := by
  have h1 := (noticesOnly_raiseSpan s k .split).allows h
  have h2 := (noticesOnly_raiseSpan (s.raiseSpan k .split) j .split).allows h1
  exact (((raises_raiseSpan k _ h).trans (raises_raiseSpan j _ h1)).trans (raises_announceVerdict k _ h2)).trans
    (raises_announceVerdict j _ ((noticesOnly_announceVerdict _ _ _).allows h2))

theorem raises_splitOpen (k j : SpanId) (h : Allows P s) : Raises P s (s.splitOpen k j) := by
  have ha : Allows P (s.setSpan k Span.blank).rederiveAll := Allows.rederiveAll (h.setSpan (.inr rfl))
  refine ((silent_setSpan k Span.blank).trans silent_rederiveAll).trans ?_
  simp only [State.splitOpen]
  generalize (s.setSpan k Span.blank).rederiveAll = a at ha
  have hb := (storeOnly_splitQueue a k j (a.span j).vSpan).allows ha
  refine (raises_splitQueue k j (a.span j).vSpan ha).trans ?_
  generalize a.splitQueue k j (a.span j).vSpan = b at hb
  have hc : Allows P ((b.setSpan k (b.halfOf k (s.span j))).setSpan j (b.halfOf j (s.span j))) :=
    hb.setSpan_setSpan (.inl rfl) rfl
  have hbc : Raises P b ((b.setSpan k (b.halfOf k (s.span j))).setSpan j (b.halfOf j (s.span j))) :=
    (silent_setSpan _ _).trans (silent_setSpan _ _)
  generalize (b.setSpan k (b.halfOf k (s.span j))).setSpan j (b.halfOf j (s.span j)) = c at hc hbc
  exact ((hbc.trans (silent_restartSpan k)).trans (silent_restartSpan j)).trans
    (raises_splitNotices k j _ ((hc.restartSpan k).restartSpan j))

/-! Service changes. -/

theorem raises_mergeAt (st : StationId) (h : Allows P s) : Raises P s (s.mergeAt st) := by
  unfold State.mergeAt
  split
  · split
    · exact raises_mergeClosed _ _ h
    · exact raises_mergeOpen _ _ h
  · exact .refl s

theorem raises_splitAt (st : StationId) (h : Allows P s) : Raises P s (s.splitAt st) := by
  unfold State.splitAt
  split
  · exact .refl s
  · split
    · exact .refl s
    · split
      · exact raises_splitClosed _ _ h
      · exact raises_splitOpen _ _ h

theorem raises_stationLeft (st : StationId) (h : Allows P s) : Raises P s (s.stationLeft st) := by
  unfold State.stationLeft
  split
  · split
    · exact .refl s
    · exact raises_suspendSpan _ h
  · exact raises_mergeAt st h

theorem raises_stationReturned (st : StationId) (h : Allows P s) : Raises P s (s.stationReturned st) := by
  unfold State.stationReturned
  split
  · split
    · exact .refl s
    · exact raises_resumeSpan _ h
  · exact raises_splitAt st h

theorem raises_tellOther (st : StationId) (v : ServiceState) (p : PortId)
    (h : p.val < s.n → p ≠ st → P p (.station st)) : Raises P s (s.tellOther st v p) := by
  unfold State.tellOther
  split
  · rename_i hp
    exact raises_raise _ _ _ (h (by simpa [State.isConfigured] using hp.1) hp.2)
  · exact .refl s

theorem raises_tellOthers (st : StationId) (v : ServiceState) (h : ∀ p : PortId, p.val < s.n → p ≠ st → P p (.station st)) :
    Raises P s (s.tellOthers st v) := by
  have tell : ∀ {u : State} (p : PortId), u.n = s.n → Raises P u (u.tellOther st v p) ∧ (u.tellOther st v p).n = s.n := by
    intro u p hu
    have := raises_tellOther (s := u) st v p fun hp => h p (hu ▸ hp)
    exact ⟨this, this.setUp.n_eq.trans hu⟩
  obtain ⟨h0, n0⟩ := tell (u := s) 0 rfl
  obtain ⟨h1, n1⟩ := tell 1 n0
  obtain ⟨h2, n2⟩ := tell 2 n1
  exact ((h0.trans h1).trans h2).trans (tell 3 n2).1

theorem raises_changeService (st : StationId) (v : ServiceState) (e : Option LineTime) (h : Allows P s)
    (hst : ∀ p : PortId, p.val < s.n → p ≠ st → P p (.station st)) : Raises P s (s.changeService st v e) := by
  have h1 : Allows P (s.recordService st v e) := h.of_same rfl (fun _ => rfl) rfl
  have h2 := (tellOthers_noticesOnly (s.recordService st v e) st v).allows h1
  refine ((silent_setStation _ _).trans (raises_tellOthers (s := s.recordService st v e) st v hst)).trans ?_
  unfold State.changeService
  simp only
  split
  · exact raises_stationLeft st h2
  · split
    · exact raises_stationReturned st h2
    · exact .refl _

/-! The segment table. -/

theorem raises_recordProposal (p : StationId) (k : SegId) (x : Settings) (h : P (otherEnd p k) (.settings k)) :
    Raises P s (s.recordProposal p k x) := (silent_setSegment _ _).trans (raises_raise _ _ _ h)

theorem raises_geometryEpoch (j : SpanId) (h : Allows P s) : Raises P s (s.geometryEpoch j) := by
  unfold State.geometryEpoch
  split
  · exact .refl s
  · exact (silent_setSpan _ _).trans (raises_raiseSpan_announceVerdict j _ _ (h.setSpan (.inl (by rfl))))

theorem raises_applyToSpan (k : SegId) (changed : Bool) (h : Allows P s) : Raises P s (s.applyToSpan k changed) := by
  obtain ⟨-, e⟩ | ⟨j, -, e⟩ := applyToSpan_cases s k changed <;> rw [e]
  · exact .refl s
  · split
    · exact (silent_rederive j).trans (raises_geometryEpoch j (h.rederive j))
    · exact silent_rederive j

theorem raises_applySettings (k : SegId) (x : Settings) (h : Allows P s) (hu : P k.upStation (.settings k))
    (hd : P k.downStation (.settings k)) : Raises P s (s.applySettings k x) := by
  have h1 : Allows P (s.setSegment k { (s.segment k).withSettings x with proposal := none }) :=
    h.of_same rfl (fun _ => rfl) rfl
  have h2 := ((noticesOnly_raise _ k.upStation (.settings k .applied) false).trans
    (noticesOnly_raise _ k.downStation (.settings k .applied) false)).allows h1
  exact (((silent_setSegment _ _).trans (raises_raise _ _ _ hu)).trans (raises_raise _ _ _ hd)).trans
    (raises_applyToSpan k _ h2)

end

end Sys2Proof.Machine

end

section
/-! What the end of the image read leaves: the records of an accepted image, the records of a refused one. -/

namespace Sys2Proof.Machine

section
variable (s : State) (img : List Byte)

theorem loadStation_station (st x : StationId) : (s.loadStation img st).station x =
    if x = st ∧ st.val < imageN img then
      { s.station st with
        service := .out
        silence := none
        banks := imageBanks img st
        active := (imageActive img st).getD 0 }
    else s.station x := by
  unfold State.loadStation
  by_cases hx : x = st
  · subst hx
    split <;> simp [*]
  · split <;> simp [hx]

theorem loadStation_rest (st : StationId) :
    s.loadStation img st = { s with stations := (s.loadStation img st).stations } := by
  unfold State.loadStation
  split <;> rfl

theorem loadSegment_segment (k x : SegId) : (s.loadSegment img k).segment x =
    if x = k ∧ k.num < imageN img then (s.segment k).withSettings (imageSettings img k) else s.segment x := by
  unfold State.loadSegment
  by_cases hx : x = k
  · subst hx
    split <;> simp [*]
  · split <;> simp [hx]

theorem loadSegment_rest (k : SegId) : s.loadSegment img k = { s with segments := (s.loadSegment img k).segments } := by
  unfold State.loadSegment
  split <;> rfl

/-- The stations of an accepted image loaded into a state. -/
def State.loadStations (s : State) (img : List Byte) : State := allPorts.foldl (fun t st => t.loadStation img st) s

/-- The segments of an accepted image loaded into a state. -/
def State.loadSegments (s : State) (img : List Byte) : State := SegId.all.foldl (fun t k => t.loadSegment img k) s

theorem loadStations_station (st : StationId) : (s.loadStations img).station st =
    if st.val < imageN img then
      { s.station st with
        service := .out
        silence := none
        banks := imageBanks img st
        active := (imageActive img st).getD 0 }
    else s.station st := by
  simp only [State.loadStations, allPorts, List.foldl_cons, List.foldl_nil]
  fin_cases st <;> simp [loadStation_station]

theorem loadStations_rest : s.loadStations img = { s with stations := (s.loadStations img).stations } := by
  simp only [State.loadStations, allPorts, List.foldl_cons, List.foldl_nil]
  rw [loadStation_rest, loadStation_rest (State.loadStation _ _ _), loadStation_rest (State.loadStation _ _ _),
    loadStation_rest s]

theorem loadSegments_segment (k : SegId) : (s.loadSegments img).segment k =
    if k.num < imageN img then (s.segment k).withSettings (imageSettings img k) else s.segment k := by
  simp only [State.loadSegments, SegId.all, List.foldl_cons, List.foldl_nil]
  cases k <;> simp [loadSegment_segment]

theorem loadSegments_rest : s.loadSegments img = { s with segments := (s.loadSegments img).segments } := by
  simp only [State.loadSegments, SegId.all, List.foldl_cons, List.foldl_nil]
  rw [loadSegment_rest, loadSegment_rest (State.loadSegment _ _ _), loadSegment_rest s]

/-- The records of an accepted image, before any port starts (R183). -/
def State.loaded (s : State) (img : List Byte) : State :=
  ((s.loadScalars img).loadStations img).loadSegments img

theorem loaded_rest : s.loaded img =
    { s.loadScalars img with stations := (s.loaded img).stations, segments := (s.loaded img).segments } := by
  unfold State.loaded
  rw [loadSegments_rest, loadStations_rest]

theorem loaded_station (st : StationId) : (s.loaded img).station st =
    if st.val < imageN img then
      { s.station st with
        service := .out
        silence := none
        banks := imageBanks img st
        active := (imageActive img st).getD 0 }
    else s.station st := by
  rw [State.loaded, loadSegments_rest]
  exact loadStations_station _ img st

theorem loaded_segment (k : SegId) : (s.loaded img).segment k =
    if k.num < imageN img then (s.segment k).withSettings (imageSettings img k) else s.segment k := by
  rw [State.loaded, loadSegments_segment, loadStations_rest]
  rfl

/-- A port started at a rate with its trip level HIGH: that port's record and nothing else. -/
theorem startPort_resetTrip (rate : Option LinkRate) (p : PortId) :
    (s.startPort p rate).resetTrip p = s.setPort p { s.port p with rate := rate, rx := .hunt, trip := .high } := by
  simp [State.startPort, State.resetTrip]

theorem accept_eq : s.accept img = allPorts.foldl
    (fun t p => t.setPort p { t.port p with rate := imageRate img p, rx := .hunt, trip := .high })
    (s.loaded img).rederiveAll := by
  simp only [← startPort_resetTrip]
  rfl

/-- Port after port replaced: the state with other ports. -/
theorem foldl_setPort_rest (f : State → PortId → Port) (ps : List PortId) :
    ps.foldl (fun t p => t.setPort p (f t p)) s =
      { s with ports := (ps.foldl (fun t p => t.setPort p (f t p)) s).ports } := by
  induction ps generalizing s with
  | nil => rfl
  | cons p ps ih =>
    rw [List.foldl_cons, ih]
    rfl

theorem accept_rest : s.accept img = { (s.loaded img).rederiveAll with ports := (s.accept img).ports } := by
  rw [accept_eq]
  exact foldl_setPort_rest _ _ _

theorem accept_port (p : PortId) : (s.accept img).port p =
    { s.port p with rate := imageRate img p, rx := .hunt, trip := .high } := by
  have hp : (s.loaded img).rederiveAll.ports = s.ports := by
    rw [rederiveAll_rest, loaded_rest]
    rfl
  have hs : ∀ q, (s.loaded img).rederiveAll.port q = s.port q := fun q => congrArg (fun x => Quad.get x q) hp
  rw [accept_eq]
  simp only [allPorts, List.foldl_cons, List.foldl_nil]
  fin_cases p <;> simp [hs]

/-- Beside the ports, acceptance leaves the loaded records with their spans derived. -/
theorem accept_same_rederived : (s.accept img).stations = (s.loaded img).rederiveAll.stations ∧
    (s.accept img).segments = (s.loaded img).rederiveAll.segments ∧
    (s.accept img).spans = (s.loaded img).rederiveAll.spans := by
  rw [accept_rest]
  exact ⟨rfl, rfl, rfl⟩

theorem accept_station (st : StationId) : (s.accept img).station st = (s.loaded img).station st := by
  rw [State.station, (accept_same_rederived s img).1, rederiveAll_rest]
  rfl

theorem accept_segment (k : SegId) : (s.accept img).segment k = (s.loaded img).segment k := by
  rw [State.segment, (accept_same_rederived s img).2.1, rederiveAll_rest]
  rfl

theorem accept_span (j : SpanId) : (s.accept img).span j = { s.span j with line := (s.loaded img).lineOf j } := by
  have hs : (s.loaded img).span j = s.span j := by
    rw [loaded_rest]
    rfl
  rw [State.span, (accept_same_rederived s img).2.2, ← hs]
  exact rederiveAll_span (s.loaded img) j

/-- What else an accepted image sets, and what it leaves (R183). -/
theorem accept_same : (s.accept img).config = .configured ∧ (s.accept img).n = imageN img ∧ (s.accept img).lineTime = 0 ∧
    (s.accept img).tStale = timerOf (imageTStale img) 30 ∧ (s.accept img).tRes = timerOf (imageTRes img) 10 ∧
    (s.accept img).tAgree = timerOf (imageTAgree img) 120 ∧ (s.accept img).tTrip = timerOf (imageTTrip img) 20 ∧
    (s.accept img).scs = .high ∧ (s.accept img).sdo = [] ∧ (s.accept img).free = s.free ∧
    (s.accept img).queues = s.queues ∧ (s.accept img).watches = s.watches ∧
    (s.accept img).lastGranted = s.lastGranted ∧ (s.accept img).pending = s.pending := by
  rw [accept_rest, rederiveAll_rest, loaded_rest]
  exact ⟨rfl, rfl, rfl, rfl, rfl, rfl, rfl, rfl, rfl, rfl, rfl, rfl, rfl, rfl⟩

/-- A refused image changes the configuration state, the serial line and the ports (R185). -/
theorem refuseImage_rest : s.refuseImage =
    { s with config := .unconfigured, scs := .high, sdo := [], ports := s.refuseImage.ports } :=
  foldl_setPort_rest { s with config := .unconfigured, scs := .high, sdo := [] } _ _

theorem refuseImage_port (p : PortId) : s.refuseImage.port p = { s.port p with rate := some .r19200, rx := .hunt } := by
  have hs : ∀ q, State.port { s with config := .unconfigured, scs := .high, sdo := [] } q = s.port q := fun _ => rfl
  simp only [State.refuseImage, allPorts, List.foldl_cons, List.foldl_nil, State.startPort]
  generalize ({ s with config := .unconfigured, scs := .high, sdo := [] } : State) = u at hs
  fin_cases p <;> simp [hs]

end

end Sys2Proof.Machine

end

section
/-! O58: every step keeps the ports: the keys of their notices, their attention lines, their reply buffers, and the serial
line. -/

namespace Sys2Proof.Machine

/-- The notices of one port are in form: no key twice, every key one that the port can hold, the attention line low exactly
while one is held (R174, R179). -/
def Port.noticesInForm (p : PortId) (x : Port) : Prop :=
  x.keys.Nodup ∧ (∀ k ∈ x.keys, keyFits p k) ∧ (x.attn = .low ↔ x.keys ≠ [])

/-- What O58 keeps of a state. -/
def State.portsHold (s : State) : Prop := s.noticesHold ∧ s.buffersHold ∧ s.serialHolds

theorem portsHold_iff {s : State} : s.portsHold ↔
    (∀ p, (s.port p).noticesInForm p ∧ (s.port p).replies.length ≤ 4) ∧ s.serialHolds := by
  unfold State.portsHold State.noticesHold State.buffersHold Port.noticesInForm
  simp only [forall_and, and_assoc]

theorem noticesInForm_atReset (p : PortId) : Port.atReset.noticesInForm p :=
  ⟨List.nodup_nil, fun _ h => absurd h List.not_mem_nil, by decide⟩

theorem noticesInForm_congr {p : PortId} {x y : Port} (h : x.noticesInForm p) (hu : y.urgent = x.urgent)
    (hr : y.routine = x.routine) (ha : y.attn = x.attn) : y.noticesInForm p := by
  have hk : y.keys = x.keys := by simp only [Port.keys, hu, hr]
  simpa only [Port.noticesInForm, hk, ha] using h

theorem noticesInForm_raiseAll {p : PortId} {x : Port} {now : LineTime} {xs : List (NoticeBody × Bool)}
    (h : x.noticesInForm p) (hx : ∀ a ∈ xs, keyFits p a.1.key) : (x.raiseAll now xs).noticesInForm p := by
  obtain ⟨hn, hf, ha⟩ := h
  refine ⟨x.raiseAll_keys_nodup now xs hn, fun k hk => ?_, x.raiseAll_attn now xs ha⟩
  obtain hk | ⟨a, ham, rfl⟩ := (x.mem_raiseAll_keys now xs).1 hk
  · exact hf k hk
  · exact hx a ham

/-- Notices taken out of a queue leave it in form. -/
theorem noticesInForm_withNotices {p : PortId} {x : Port} {u r : List Notice} (h : x.noticesInForm p)
    (hu : (u ++ r).Sublist (x.urgent ++ x.routine)) : (x.withNotices u r).noticesInForm p := by
  obtain ⟨hn, hf, -⟩ := h
  have hs : (x.withNotices u r).keys.Sublist x.keys := hu.map Notice.key
  refine ⟨hn.sublist hs, fun k hk => hf k (hs.subset hk), ?_⟩
  rw [Port.withNotices_attn]
  simp [Port.keys]

section
variable {s t : State}

theorem portsHold_setPort {p : PortId} {x : Port} (h : s.portsHold) (hx : x.noticesInForm p) (hr : x.replies.length ≤ 4) :
    (s.setPort p x).portsHold := by
  obtain ⟨hp, hs⟩ := portsHold_iff.1 h
  refine portsHold_iff.2 ⟨fun q => ?_, hs⟩
  by_cases hq : q = p
  · subst hq
    simpa using ⟨hx, hr⟩
  · simpa [hq] using hp q

/-- A port's link replaced, with its notices as they stand. -/
theorem portsHold_setLink {p : PortId} {x : Port} (h : s.portsHold) (hu : x.urgent = (s.port p).urgent)
    (hr : x.routine = (s.port p).routine) (ha : x.attn = (s.port p).attn) (hl : x.replies.length ≤ 4) :
    (s.setPort p x).portsHold :=
  portsHold_setPort h (noticesInForm_congr ((portsHold_iff.1 h).1 p).1 hu hr ha) hl

theorem portsHold_replies (h : s.portsHold) (p : PortId) : (s.port p).replies.length ≤ 4 := h.2.1 p

theorem portsHold_noticesInForm (h : s.portsHold) (p : PortId) : (s.port p).noticesInForm p := h.1 p

/-- A run of an operation that keeps `portsHold` and drops or adds no reply. -/
def KeepsPorts (s t : State) : Prop := (s.portsHold → t.portsHold) ∧ ∀ q, (t.port q).replies = (s.port q).replies

theorem Raises.keepsPorts (h : Raises keyFits s t) : KeepsPorts s t := by
  have hr : ∀ q, (t.port q).replies = (s.port q).replies := fun q => by
    obtain ⟨xs, -, e⟩ := h.ports q
    rw [e, Port.raiseAll_replies]
  refine ⟨fun hs => ?_, hr⟩
  obtain ⟨hp, hl⟩ := portsHold_iff.1 hs
  obtain ⟨hc, -, -, -, -, -, -, hscs, hsdo, -⟩ := h.setUp
  refine portsHold_iff.2 ⟨fun q => ⟨?_, by rw [hr]; exact (hp q).2⟩, ?_⟩
  · obtain ⟨xs, hx, e⟩ := h.ports q
    rw [e]
    exact noticesInForm_raiseAll (hp q).1 hx
  · simpa only [State.serialHolds, hc, hscs, hsdo] using hl

/-- Every notice of the engine and the span table fits every port. -/
theorem allows_keyFits (s : State) : Allows keyFits s :=
  ⟨fun _ _ _ _ _ => ⟨trivial, trivial⟩, fun _ _ _ => ⟨trivial, trivial⟩, fun _ _ _ => trivial⟩

theorem keepsPorts_changeService (st : StationId) (v : ServiceState) (e : Option LineTime) :
    KeepsPorts s (s.changeService st v e) :=
  (raises_changeService st v e (allows_keyFits s) fun _ _ hp => Ne.symm hp).keepsPorts

theorem keepsPorts_setNotices (p : PortId) {u r : List Notice}
    (hu : (u ++ r).Sublist ((s.port p).urgent ++ (s.port p).routine)) :
    KeepsPorts s (s.setPort p ((s.port p).withNotices u r)) := by
  refine ⟨fun h => portsHold_setPort h (noticesInForm_withNotices (portsHold_noticesInForm h p) hu)
    (portsHold_replies h p), fun q => ?_⟩
  by_cases hq : q = p
  · subst hq
    simp
  · simp [hq]

theorem keepsPorts_settleHead (st : StationId) (r : Reading) (rest : List Reading) :
    KeepsPorts s (s.settleHead st r rest) :=
  keepsPorts_setNotices (s := s.setStation st _) st (List.filter_sublist.append List.filter_sublist)

/-- What a block's answer to a request makes of the ports. -/
theorem Answers.keepsPorts {p : PortId} (h : Answers p s t) : KeepsPorts s t := by
  have ha := allows_keyFits
  have hres : ∀ u : State, (u.station p).queue ≠ [] → keyFits p (.resolve p) := fun _ _ => rfl
  cases h with
  | same => exact (Raises.refl s).keepsPorts
  | stationIn hout => exact keepsPorts_changeService p _ _
  | stationOut hnot => exact keepsPorts_changeService p _ _
  | readingQueued r hr hlen hq => exact (silent_setStation _ _).keepsPorts
  | readingAtHead r hr hq =>
    exact ((silent_setStation _ _).trans (raises_convertHead p (ha (s.acceptReading p r)) (hres _))).keepsPorts
  | resolved r rest c c' m hq hr => exact keepsPorts_settleHead p _ rest
  | bankWritten b w x hx => exact (silent_setStation _ _).keepsPorts
  | bankSelected b => exact (silent_setStation _ _).keepsPorts
  | spanOpened j l cFill hl hp hc he hf => exact (raises_openSpan j l cFill (ha s)).keepsPorts
  | spanClosed j l hl hc => exact (raises_closeSpan j (ha s)).keepsPorts
  | verdictCleared j l hl => exact ((silent_setSpan _ _).trans (raises_announceVerdict j _ (ha _))).keepsPorts
  | proposed k x hk hp hx => exact (raises_recordProposal p k x trivial).keepsPorts
  | applied k q hk hq => exact (raises_applySettings k q.settings (ha s) trivial trivial).keepsPorts
  | withdrawn k hk hp => exact ((silent_setSegment _ _).trans (raises_raise _ _ _ trivial)).keepsPorts
  | watchOwned i w hw => exact (silent_setWatch i w).keepsPorts
  | watchesFrozen flag => exact (silent_setWatches _).keepsPorts
  | noticeTaken urgent routine hu =>
    refine keepsPorts_setNotices p ?_
    obtain ⟨x, hu, hr⟩ | ⟨x, hu, rfl, hr⟩ := hu
    · rw [hu, hr]
      exact List.Sublist.append (List.sublist_cons_self x urgent) (List.Sublist.refl routine)
    · rw [hu, hr]
      exact List.sublist_cons_self x _

theorem portsHold_setRx (h : s.portsHold) (p : PortId) (rx : Receiver) : (s.setRx p rx).portsHold :=
  portsHold_setLink h rfl rfl rfl (portsHold_replies h p)

theorem portsHold_reply {p : PortId} (h : t.portsHold) (hb : (t.port p).replies.length < 4) (kind : Byte) (code : Result)
    (body : ReplyBody) : (t.reply p kind code body).portsHold :=
  portsHold_setLink h rfl rfl rfl (by simpa [Port.reply] using hb)

theorem replies_of_room {p : PortId} (h : s.bufferFull p = false) : (s.port p).replies.length < 4 := by
  exact not_le.1 (of_decide_eq_false h)

theorem silent_holdIfTouched {P : PortId → NoticeKey → Prop} (st : StationId) (j : SpanId) :
    Raises P s (s.holdIfTouched st j) := by
  unfold State.holdIfTouched
  split
  · exact silent_setSpan _ _
  · exact .refl s

theorem silent_trippedBy {P : PortId → NoticeKey → Prop} (st : StationId) : Raises P s (s.trippedBy st) :=
  ((silent_holdIfTouched _ _).trans (silent_holdIfTouched _ _)).trans (silent_holdIfTouched _ _)

theorem portsHold_accept (img : List Byte) (h : s.portsHold) : (s.accept img).portsHold := by
  refine portsHold_iff.2 ⟨fun p => ?_, ?_⟩
  · rw [accept_port]
    exact ⟨noticesInForm_congr (portsHold_noticesInForm h p) rfl rfl rfl, portsHold_replies h p⟩
  · obtain ⟨hc, -, -, -, -, -, -, hscs, hsdo, -⟩ := accept_same s img
    simp [State.serialHolds, hc, hscs, hsdo]

theorem portsHold_refuseImage (h : s.portsHold) : s.refuseImage.portsHold := by
  refine portsHold_iff.2 ⟨fun p => ?_, ?_⟩
  · rw [refuseImage_port]
    exact ⟨noticesInForm_congr (portsHold_noticesInForm h p) rfl rfl rfl, portsHold_replies h p⟩
  · rw [refuseImage_rest]
    simp [State.serialHolds]

theorem portsHold_reset (pending : List Instr) : State.portsHold { State.reset with pending := pending } := by
  refine portsHold_iff.2 ⟨fun p => ?_, by simp [State.serialHolds, State.reset]⟩
  have hp : State.port { State.reset with pending := pending } p = Port.atReset := Quad.get_fill _ _
  rw [hp]
  exact ⟨noticesInForm_atReset p, by simp [Port.atReset]⟩

/-- Every change that a command can make keeps the ports in form. -/
theorem Steps.portsHold (h : Steps s t) (hs : s.portsHold) : t.portsHold := by
  cases h with
  | same => exact hs
  | reset => exact portsHold_reset _
  | accept image hc ha => exact portsHold_accept image hs
  | refuseImage hc => exact portsHold_refuseImage hs
  | tick => exact hs
  | silence st hin => exact (keepsPorts_changeService st _ _).1 hs
  | resolve st r rest c c' m hq hr => exact (keepsPorts_settleHead st _ rest).1 hs
  | agreement k q hq =>
    exact ((silent_setSegment _ _).trans
      (raises_raise (P := keyFits) q.proposer (.settings k .expired) false trivial)).keepsPorts.1 hs
  | holdEnds j => exact (silent_setSpan (P := keyFits) _ _).keepsPorts.1 hs
  | tripFalls p hc =>
    exact (silent_trippedBy (P := keyFits) p).keepsPorts.1 (portsHold_setLink hs rfl rfl rfl (portsHold_replies hs p))
  | tripReleased p => exact portsHold_setLink hs rfl rfl rfl (portsHold_replies hs p)
  | received p rx => exact portsHold_setRx hs p rx
  | replied p kind code hb =>
    exact portsHold_reply (portsHold_setRx hs p .hunt) (replies_of_room (by simpa using hb)) _ _ _
  | answered p r u kind result body hb hp hu =>
    subst hu
    obtain ⟨hi, hr⟩ := (answerTo_answers p r (s.setRx p .hunt)).keepsPorts
    refine portsHold_reply (hi (portsHold_setRx hs p .hunt)) ?_ _ _ _
    rw [hr]
    exact replies_of_room (by simpa using hb)
  | restarted p =>
    refine (silent_setStation (P := keyFits) _ _).keepsPorts.1 (portsHold_setPort hs ?_ (by simp [Port.restarted]))
    exact noticesInForm_congr (noticesInForm_atReset p) rfl rfl rfl
  | replySent p =>
    refine portsHold_setLink hs rfl rfl rfl ?_
    have := portsHold_replies hs p
    simp only [List.length_tail]
    omega
  | granted p r c m hr =>
    have h0 : State.portsHold { s with lastGranted := some p } := hs
    exact (raises_applyGrant (P := keyFits) (allows_keyFits s) fun _ => rfl).keepsPorts.1 h0

end

end Sys2Proof.Machine

open Sys2Proof Sys2Proof.Machine

/-- Settles O58: what commands do to ports is to raise notices that fit them, to take notices away, to place one reply where
there is room, and to change a link. -/
theorem stepKeepsPorts : Obligations.StepKeepsPorts := by
  unfold Obligations.StepKeepsPorts
  intro s t hs ht
  exact step_keeps_of_steps (Inv := State.portsHold) (fun _ _ h => h) (fun _ _ hi h => h.portsHold hi) hs ht

end

section
/-! The line through every operation: where N, the service states, the segments and the records' lines stand, where they are
derived anew, and that every span lies between the span ends of the topology (R8 to R12). -/

namespace Sys2Proof.Machine

/-! The spans of a topology. -/

section
variable {s t : State}

/-- The span ends depend on the service of interior stations alone. -/
theorem isSpanEnd_of_interior (hn : t.n = s.n)
    (hs : ∀ st : StationId, 0 < st.val → st.val + 1 < s.n → t.inService st = s.inService st) (j : SpanId) :
    t.isSpanEnd j = s.isSpanEnd j := by
  simp only [State.isSpanEnd, hn]
  by_cases h : j.num + 1 < s.n
  · rw [hs j.downStation (by cases j <;> decide) (by cases j <;> exact h)]
  · simp [h]

/-- What a span derives depends on the service of interior stations, and on the settings and fill volumes of segments. -/
theorem lineOf_of_interior (hn : t.n = s.n)
    (hs : ∀ st : StationId, 0 < st.val → st.val + 1 < s.n → t.inService st = s.inService st)
    (hg : ∀ k, (t.segment k).settings = (s.segment k).settings ∧ (t.segment k).vSeg = (s.segment k).vSeg) (j : SpanId) :
    t.lineOf j = s.lineOf j := by
  have he := isSpanEnd_of_interior hn hs
  have hu : t.upstreamEnd j = s.upstreamEnd j := by cases j <;> simp [State.upstreamEnd, he]
  simp only [State.lineOf, State.derivedLine, State.thresholdsOver, State.sumOver, he, hu, hg]

/-- Every segment of the line lies in a span whose end is a span end. -/
theorem exists_spanEnd_covering (hn : s.n ≤ 4) {k : SegId} (hk : k.num < s.n) :
    ∃ j, s.isSpanEnd j = true ∧ (s.upstreamEnd j).val < k.num ∧ k.num ≤ j.num := by
  have h3 : s.isSpanEnd .one = false → s.isSpanEnd .two = false → s.isSpanEnd .three = true := by
    simp only [State.isSpanEnd, SegId.num, Bool.or_eq_false_iff, beq_eq_false_iff_ne, Bool.or_eq_true, beq_iff_eq]
    have : 1 ≤ k.num := by cases k <;> decide
    omega
  have h4 : k = .two → s.isSpanEnd .two = false → s.isSpanEnd .three = true := by
    rintro rfl
    simp only [SegId.num] at hk
    simp only [State.isSpanEnd, SegId.num, Bool.or_eq_false_iff, beq_eq_false_iff_ne, Bool.or_eq_true, beq_iff_eq]
    omega
  have h5 : k = .three → s.isSpanEnd .three = true := by
    rintro rfl
    simp only [SegId.num] at hk
    simp only [State.isSpanEnd, SegId.num, Bool.or_eq_true, beq_iff_eq]
    omega
  cases k with
  | one =>
    cases h1 : s.isSpanEnd .one with
    | true => exact ⟨.one, h1, derivedLine_upstream_lt s .one, le_refl _⟩
    | false =>
      cases h2 : s.isSpanEnd .two with
      | true => exact ⟨.two, h2, by simp [State.upstreamEnd, h1, SegId.num], by decide⟩
      | false => exact ⟨.three, h3 h1 h2, by simp [State.upstreamEnd, h1, h2, SegId.num], by decide⟩
  | two =>
    cases h2 : s.isSpanEnd .two with
    | true => exact ⟨.two, h2, derivedLine_upstream_lt s .two, le_refl _⟩
    | false =>
      refine ⟨.three, h4 rfl h2, ?_, by decide⟩
      have h : (if s.isSpanEnd .one = true then (1 : StationId) else 0).val < 2 := by split <;> decide
      simpa [State.upstreamEnd, h2, SegId.num] using h
  | three => exact ⟨.three, h5 rfl, derivedLine_upstream_lt s .three, le_refl _⟩

/-- A present span of a topology, as what it derives. -/
theorem line_of_topology (ht : s.topologyHolds) {j : SpanId} {l : SpanLine} (hl : (s.span j).line = some l) :
    s.isSpanEnd j = true ∧ l = s.derivedLine j := lineOf_some (by rw [← ht.2 j]; exact hl)

theorem line_bounds (ht : s.topologyHolds) {j : SpanId} {l : SpanLine} (hl : (s.span j).line = some l) :
    l.upstream.val < j.num ∧ j.num < s.n := lineOf_bounds (by rw [← ht.2 j]; exact hl)

theorem line_of_isSpanEnd (ht : s.topologyHolds) {j : SpanId} (h : s.isSpanEnd j = true) :
    (s.span j).line = some (s.derivedLine j) := by
  rw [ht.2 j, State.lineOf, if_pos h]

/-- Every segment of the line is covered by a present span (R10). -/
theorem exists_covering (ht : s.topologyHolds) {k : SegId} (hk : k.num < s.n) :
    ∃ j l, (s.span j).line = some l ∧ l.upstream.val < k.num ∧ k.num ≤ j.num := by
  obtain ⟨j, he, hu, hj⟩ := exists_spanEnd_covering ht.1 hk
  exact ⟨j, _, line_of_isSpanEnd ht he, hu, hj⟩

/-- Two present spans with one upstream end are one span. -/
theorem span_unique_of_upstream (ht : s.topologyHolds) {i j : SpanId} {l m : SpanLine} (hi : (s.span i).line = some m)
    (hj : (s.span j).line = some l) (hu : m.upstream = l.upstream) : i = j := by
  have below : ∀ {i j : SpanId} {m l : SpanLine}, (s.span i).line = some m → (s.span j).line = some l →
      m.upstream = l.upstream → ¬ i.num < j.num := by
    intro i j m l hi hj hu hlt
    have h1 := num_le_upstreamEnd (line_of_topology ht hi).1 hlt
    have h2 := (line_bounds ht hi).1
    rw [hu, (line_of_topology ht hj).2] at h2
    exact absurd h2 (not_lt.2 h1)
  have h1 := below hi hj hu
  have h2 := below hj hi hu.symm
  exact SegId.eq_of_num_eq (by omega)

theorem spanFedBy_eq (ht : s.topologyHolds) {j : SpanId} {l : SpanLine} (hj : (s.span j).line = some l) :
    s.spanFedBy l.upstream = some j := by
  cases h : s.spanFedBy l.upstream with
  | none =>
    have := List.find?_eq_none.1 h j (by cases j <;> simp [SegId.all])
    simp [State.feeds, hj] at this
  | some i =>
    obtain ⟨m, hi, hu⟩ := spanFedBy_some h
    exact congrArg some (span_unique_of_upstream ht hi hj hu)

theorem spanFedBy_congr (h : ∀ j, (t.span j).line = (s.span j).line) (st : StationId) :
    t.spanFedBy st = s.spanFedBy st := by
  simp only [State.spanFedBy, State.feeds, h]

theorem spanContaining_congr (h : ∀ j, (t.span j).line = (s.span j).line) (k : SegId) :
    t.spanContaining k = s.spanContaining k := by
  simp only [State.spanContaining, State.covers, h]

theorem endingAt_eq_some_iff {st : StationId} {k : SegId} : SegId.endingAt st = some k ↔ st = k.downStation := by
  fin_cases st <;> cases k <;> decide

theorem downStation_val (k : SegId) : k.downStation.val = k.num := by cases k <;> rfl

/-- Every station but the head is the downstream end of a segment. -/
theorem exists_endingAt {st : StationId} (h : st.val ≠ 0) : ∃ k, SegId.endingAt st = some k ∧ k.num = st.val := by
  fin_cases st
  · exact absurd rfl h
  · exact ⟨.one, rfl, rfl⟩
  · exact ⟨.two, rfl, rfl⟩
  · exact ⟨.three, rfl, rfl⟩

theorem exists_seg_num {i : Nat} (h1 : 1 ≤ i) (h3 : i ≤ 3) : ∃ k : SegId, k.num = i := by
  interval_cases i
  · exact ⟨.one, rfl⟩
  · exact ⟨.two, rfl⟩
  · exact ⟨.three, rfl⟩

/-- An interior station IN_SERVICE ends a present span and starts another (R10). -/
theorem interior_between (ht : s.topologyHolds) {st : StationId} (h0 : 0 < st.val) (hn : st.val + 1 < s.n)
    (hin : s.inService st = true) : ∃ k j lk lj, SegId.endingAt st = some k ∧ s.spanFedBy st = some j ∧
      (s.span k).line = some lk ∧ (s.span j).line = some lj ∧ lj.upstream = st ∧ k.num = st.val := by
  obtain ⟨k, hk, hkn⟩ := exists_endingAt h0.ne'
  have hke : s.isSpanEnd k = true := by
    rw [endingAt_eq_some_iff] at hk
    simp only [State.isSpanEnd, ← hk, hin, hkn]
    simp [hn]
  obtain ⟨k', hk'⟩ := exists_seg_num (i := st.val + 1) (by omega) (by have := ht.1; omega)
  obtain ⟨j, lj, hj, hu, hle⟩ := exists_covering ht (k := k') (by omega)
  have hup := num_le_upstreamEnd hke (j := j) (by omega)
  have he := (line_of_topology ht hj).2
  have hst : lj.upstream = st := by
    refine Fin.ext ?_
    have : (s.upstreamEnd j).val = lj.upstream.val := by rw [he]; rfl
    omega
  exact ⟨k, j, _, lj, hk, hst ▸ spanFedBy_eq ht hj, line_of_isSpanEnd ht hke, hj, hst, hkn⟩

/-- An interior station that is not IN_SERVICE lies inside a present span (R10). -/
theorem interior_inside (ht : s.topologyHolds) {st : StationId} (h0 : 0 < st.val) (hn : st.val + 1 < s.n)
    (hout : s.inService st = false) : ∃ k j l, SegId.endingAt st = some k ∧ s.spanContaining k = some j ∧
      (s.span j).line = some l ∧ (s.span k).line = none ∧ l.upstream.val < k.num ∧ k.num < j.num ∧ k.num = st.val := by
  obtain ⟨k, hk, hkn⟩ := exists_endingAt h0.ne'
  have hke : s.isSpanEnd k = false := by
    rw [endingAt_eq_some_iff] at hk
    simp only [State.isSpanEnd, ← hk, hout, hkn]
    simp
    omega
  obtain ⟨j, l, hj, hu, hle⟩ := exists_covering ht (k := k) (by omega)
  have hne : k ≠ j := by
    rintro rfl
    rw [(line_of_topology ht hj).1] at hke
    cases hke
  refine ⟨k, j, l, hk, spanContaining_eq ht hj hu hle, hj, ?_, hu, ?_, hkn⟩
  · rw [ht.2 k, State.lineOf, hke]
    rfl
  · exact lt_of_le_of_ne hle fun h => hne (SegId.eq_of_num_eq h)

end

/-! What keeps the line. -/

/-- The configuration state, N, the service states, the segments and the records' lines stand. -/
structure LineKept (s t : State) : Prop where
  config : t.config = s.config
  n : t.n = s.n
  service : ∀ st, t.inService st = s.inService st
  segments : t.segments = s.segments
  lines : ∀ j, (t.span j).line = (s.span j).line

section
variable {s t u : State}

theorem LineKept.refl (s : State) : LineKept s s := ⟨rfl, rfl, fun _ => rfl, rfl, fun _ => rfl⟩

theorem LineKept.trans (h : LineKept s t) (k : LineKept t u) : LineKept s u :=
  ⟨k.config.trans h.config, k.n.trans h.n, fun st => (k.service st).trans (h.service st), k.segments.trans h.segments,
    fun j => (k.lines j).trans (h.lines j)⟩

theorem LineKept.of_fields (hc : t.config = s.config) (hn : t.n = s.n) (hst : t.stations = s.stations)
    (hg : t.segments = s.segments) (hs : t.spans = s.spans) : LineKept s t :=
  ⟨hc, hn, fun st => by simp [State.inService, State.station, hst], hg, fun j => by simp [State.span, hs]⟩

theorem StoreOnly.lineKept (h : StoreOnly s t) : LineKept s t := by
  obtain ⟨hc, hn, -, hst, hs, hg, -, -⟩ := h.same
  exact .of_fields hc hn hst hg hs

theorem SamplesOnly.lineKept (h : SamplesOnly s t) : LineKept s t := h.storeOnly.lineKept

theorem NoticesOnly.lineKept (h : NoticesOnly s t) : LineKept s t := h.samplesOnly.lineKept

theorem lineKept_setPort (p : PortId) (x : Port) : LineKept s (s.setPort p x) := .of_fields rfl rfl rfl rfl rfl

theorem lineKept_setWatch (i : WatchId) (w : Watch) : LineKept s (s.setWatch i w) := .of_fields rfl rfl rfl rfl rfl

theorem lineKept_setStation {st : StationId} {x : Station} (hx : x.service = (s.station st).service) :
    LineKept s (s.setStation st x) := by
  refine ⟨rfl, rfl, fun q => ?_, rfl, fun _ => rfl⟩
  by_cases hq : q = st
  · subst hq
    simp [State.inService, hx]
  · simp [State.inService, hq]

theorem lineKept_setSpan {j : SpanId} {x : Span} (hx : x.line = (s.span j).line) : LineKept s (s.setSpan j x) := by
  refine ⟨rfl, rfl, fun _ => rfl, rfl, fun i => ?_⟩
  by_cases hi : i = j
  · subst hi
    simpa using hx
  · simp [hi]

theorem LineKept.lineOf (h : LineKept s t) (j : SpanId) : t.lineOf j = s.lineOf j :=
  lineOf_congr h.n h.service (fun k => by simp [State.segment, h.segments]) j

theorem LineKept.topologyHolds (h : LineKept s t) (ht : s.topologyHolds) : t.topologyHolds :=
  ⟨h.n ▸ ht.1, fun j => by rw [h.lines, h.lineOf, ht.2]⟩

theorem geometryHolds_congr (hn : t.n = s.n) (hg : t.segments = s.segments) (h : s.geometryHolds) : t.geometryHolds := by
  simpa only [State.geometryHolds, State.isSegment, State.segment, hn, hg] using h

theorem LineKept.geometryHolds (h : LineKept s t) (hg : s.geometryHolds) : t.geometryHolds :=
  geometryHolds_congr h.n h.segments hg

/-! The engine and the stations keep the line. -/

theorem lineKept_balanceUpdate (j : SpanId) (l : SpanLine) (c : Conversion) (m : Nat) :
    LineKept s (s.balanceUpdate j l c m) :=
  ((storeOnly_drained _ _ _).lineKept.trans (lineKept_setSpan (by rw [judged_line, weighed_line]; rfl))).trans
    (balanceUpdate_samplesOnly s j l c m).lineKept

theorem lineKept_inflowTo (j : SpanId) (l : SpanLine) (st : StationId) (b : BankId) (c : Conversion) (m : Nat) :
    LineKept s (s.inflowTo j l st b c m) := by
  by_cases hv : c.v = 0
  · rw [inflowTo_idle _ _ _ _ _ _ _ hv]
    exact lineKept_setSpan rfl
  · refine LineKept.trans ?_ (inflowTo_samplesOnly s j l st b c m hv).lineKept
    exact ((storeOnly_allocate s).trans (storeOnly_append _ _ _)).lineKept.trans (lineKept_setSpan (by rfl))

theorem lineKept_outflowSide (st : StationId) (c : Conversion) (m : Nat) : LineKept s (s.outflowSide st c m) := by
  obtain e | ⟨j, l, -, -, -, e⟩ := outflowSide_cases s st c m <;> rw [e]
  · exact .refl s
  · exact lineKept_balanceUpdate j l c m

theorem lineKept_inflowSide (st : StationId) (b : BankId) (c : Conversion) (m : Nat) :
    LineKept s (s.inflowSide st b c m) := by
  obtain e | ⟨j, l, -, -, -, e⟩ := inflowSide_cases s st b c m <;> rw [e]
  · exact .refl s
  · exact lineKept_inflowTo j l st b c m

theorem lineKept_raiseResolve (st : StationId) (r : Reading) (c : Conversion) : LineKept s (s.raiseResolve st r c) :=
  (lineKept_setStation (by rfl)).trans (raiseResolve_samplesOnly s st r c).lineKept

theorem lineKept_convertHead (st : StationId) : LineKept s (s.convertHead st) := by
  unfold State.convertHead
  split
  · exact .refl s
  · simp only
    split
    · exact (lineKept_setStation (by rfl)).trans (lineKept_raiseResolve _ _ _)
    · exact lineKept_setStation (by rfl)

theorem lineKept_removeHead (st : StationId) : LineKept s (s.removeHead st) :=
  (lineKept_setStation (by rfl)).trans (lineKept_convertHead st)

theorem lineKept_applyGrant (p : PortId) (r : Reading) (c : Conversion) (m : Nat) : LineKept s (s.applyGrant p r c m) := by
  have h0 : LineKept s { s with lastGranted := some p } := .of_fields rfl rfl rfl rfl rfl
  exact ((h0.trans (lineKept_outflowSide _ _ _)).trans (lineKept_inflowSide _ _ _ _)).trans (lineKept_removeHead _)

theorem lineKept_settleHead (st : StationId) (r : Reading) (rest : List Reading) : LineKept s (s.settleHead st r rest) :=
  (lineKept_setStation (by rfl)).trans (lineKept_setPort _ _)

/-! The span table keeps the line but at a merge and a split. -/

theorem lineKept_openSpan (j : SpanId) (l : SpanLine) (cFill : Nat) : LineKept s (s.openSpan j l cFill) := by
  obtain ⟨p, -, h⟩ := openSpan_noticesOnly s j l cFill
  exact (((storeOnly_allocate s).trans (storeOnly_append _ _ p)).lineKept.trans (lineKept_setSpan (by rfl))).trans
    h.lineKept

theorem lineKept_closeSpan (j : SpanId) : LineKept s (s.closeSpan j) :=
  ((storeOnly_release s j).lineKept.trans (lineKept_setSpan (by rfl))).trans (closeSpan_noticesOnly s j).lineKept

theorem lineKept_suspendSpan (j : SpanId) : LineKept s (s.suspendSpan j) := by
  by_cases h : (s.span j).state = .opened
  · exact (lineKept_setSpan (by rfl)).trans (suspendSpan_noticesOnly s j h).lineKept
  · simpa [State.suspendSpan, h] using LineKept.refl s

theorem lineKept_resumeSpan (j : SpanId) : LineKept s (s.resumeSpan j) := by
  unfold State.resumeSpan
  split
  · exact .refl s
  · split
    · exact (lineKept_setSpan (by rfl)).trans
        ((noticesOnly_raiseSpan _ _ _).trans (noticesOnly_announceVerdict _ _ _)).lineKept
    · exact .refl s

theorem lineKept_holdIfTouched (st : StationId) (j : SpanId) : LineKept s (s.holdIfTouched st j) := by
  unfold State.holdIfTouched
  split
  · exact lineKept_setSpan (by rfl)
  · exact .refl s

theorem lineKept_trippedBy (st : StationId) : LineKept s (s.trippedBy st) :=
  ((lineKept_holdIfTouched _ _).trans (lineKept_holdIfTouched _ _)).trans (lineKept_holdIfTouched _ _)

theorem lineKept_restartSpan (j : SpanId) : LineKept s (s.restartSpan j) := lineKept_setSpan (by rfl)

/-! Where the lines are derived anew. -/

theorem rederiveAll_lineOf (j : SpanId) : s.rederiveAll.lineOf j = s.lineOf j := by
  simp only [State.rederiveAll, State.rederive, lineOf_setSpan]

theorem rederiveAll_topologyHolds (hn : s.n ≤ 4) : s.rederiveAll.topologyHolds :=
  ⟨hn, fun j => by rw [rederiveAll_span, rederiveAll_lineOf]⟩

/-- What stands as every span is derived anew. -/
theorem rederiveAll_same : s.rederiveAll.config = s.config ∧ s.rederiveAll.n = s.n ∧
    (∀ st, s.rederiveAll.inService st = s.inService st) ∧ s.rederiveAll.segments = s.segments := by
  rw [rederiveAll_rest]
  exact ⟨rfl, rfl, fun _ => rfl, rfl⟩

/-- A merge or a split leaves a topology derived anew. -/
def Rederived (s t : State) : Prop :=
  t.config = s.config ∧ t.n = s.n ∧ (∀ st, t.inService st = s.inService st) ∧ t.segments = s.segments ∧
    (s.n ≤ 4 → t.topologyHolds)

theorem Rederived.of_lineKept (h : LineKept s.rederiveAll t) : Rederived s t := by
  obtain ⟨hc, hn, hs, hg⟩ := rederiveAll_same (s := s)
  exact ⟨h.config.trans hc, h.n.trans hn, fun st => (h.service st).trans (hs st), h.segments.trans hg,
    fun hn => h.topologyHolds (rederiveAll_topologyHolds hn)⟩

/-- What keeps all but the lines, and then a fresh derivation. -/
theorem Rederived.after (hc : u.config = s.config) (hn : u.n = s.n) (hst : u.stations = s.stations)
    (hg : u.segments = s.segments) (h : Rederived u t) : Rederived s t := by
  obtain ⟨h1, h2, h3, h4, h5⟩ := h
  refine ⟨h1.trans hc, h2.trans hn, fun st => (h3 st).trans ?_, h4.trans hg, fun hs => h5 (hn ▸ hs)⟩
  simp [State.inService, State.station, hst]

theorem rederived_mergeClosed (k j : SpanId) : Rederived s (s.mergeClosed k j) := by
  have h := (storeOnly_releaseUnless s k ((s.span k).state = .closed)).trans
    (storeOnly_releaseUnless _ j ((s.span j).state = .closed))
  obtain ⟨hc, hn, -, hst, -, hg, -, -⟩ := h.same
  have hm := mergeClosed_noticesOnly s k j _ _ rfl rfl
  generalize (if (s.span j).state = .closed then (if (s.span k).state = .closed then s else s.release k)
    else State.release (if (s.span k).state = .closed then s else s.release k) j) = b at hm hc hn hst hg
  exact Rederived.after (u := (b.setSpan k Span.blank).setSpan j (s.span j).closedOf) hc hn hst hg
    (.of_lineKept hm.lineKept)

theorem rederived_mergeOpen (k j : SpanId) : Rederived s (s.mergeOpen k j) := by
  obtain ⟨hc, hn, -, hst, -, hg, -, -⟩ := (storeOnly_divert s k j).same
  have hm := mergeOpen_noticesOnly s k j
  generalize s.divert k j = b at hm hc hn hst hg
  exact Rederived.after (u := (b.setSpan k Span.blank).setSpan j ((s.span j).mergedWith (s.span k) s.lineTime)) hc hn hst hg
    (.of_lineKept ((lineKept_restartSpan j).trans hm.lineKept))

theorem rederived_splitClosed (k j : SpanId) : Rederived s (s.splitClosed k j) :=
  Rederived.after (u := s.setSpan k Span.blank) rfl rfl rfl rfl (.of_lineKept (splitClosed_noticesOnly s k j).lineKept)

theorem lineKept_setHalves (k j : SpanId) (old : Span) :
    LineKept s ((s.setSpan k (s.halfOf k old)).setSpan j (s.halfOf j old)) := by
  refine (lineKept_setSpan (j := k) (x := s.halfOf k old) rfl).trans (lineKept_setSpan ?_)
  by_cases h : j = k
  · subst h
    rw [setSpan_span_same]
  · rw [setSpan_span_ne _ _ _ h]
    rfl

theorem rederived_splitOpen (k j : SpanId) : Rederived s (s.splitOpen k j) := by
  refine Rederived.after (u := s.setSpan k Span.blank) rfl rfl rfl rfl (.of_lineKept ?_)
  have h := splitOpen_noticesOnly s k j _ _ rfl rfl
  generalize (s.setSpan k Span.blank).rederiveAll = a at h ⊢
  have hs := (storeOnly_splitQueue a k j (a.span j).vSpan).lineKept
  generalize a.splitQueue k j (a.span j).vSpan = b at h hs
  exact (((hs.trans (lineKept_setHalves k j (s.span j))).trans (lineKept_restartSpan k)).trans
    (lineKept_restartSpan j)).trans h.lineKept

/-- The merge of an interior station's leaving: nothing where no span starts at the station, else one of the two merges. -/
theorem mergeAt_cases (s : State) (st : StationId) :
    (s.mergeAt st = s ∧ (SegId.endingAt st = none ∨ s.spanFedBy st = none)) ∨
      ∃ k j, SegId.endingAt st = some k ∧ s.spanFedBy st = some j ∧
        s.mergeAt st = if (s.span k).state = .closed ∨ (s.span j).state = .closed then s.mergeClosed k j
          else s.mergeOpen k j := by
  cases hk : SegId.endingAt st with
  | none => exact .inl ⟨by simp [State.mergeAt, hk], .inl rfl⟩
  | some k =>
    cases hj : s.spanFedBy st with
    | none => exact .inl ⟨by simp [State.mergeAt, hk, hj], .inr rfl⟩
    | some j => exact .inr ⟨k, j, rfl, rfl, by simp [State.mergeAt, hk, hj]⟩

theorem splitAt_cases (s : State) (st : StationId) :
    (s.splitAt st = s ∧ ∀ k, SegId.endingAt st = some k → s.spanContaining k = none) ∨
      ∃ k j, SegId.endingAt st = some k ∧ s.spanContaining k = some j ∧
        s.splitAt st = if (s.span j).state = .closed then s.splitClosed k j else s.splitOpen k j := by
  cases hk : SegId.endingAt st with
  | none => exact .inl ⟨by simp [State.splitAt, hk], fun _ h => by cases h⟩
  | some k =>
    cases hj : s.spanContaining k with
    | none => exact .inl ⟨by simp [State.splitAt, hk, hj], fun i hi => by cases hi; exact hj⟩
    | some j => exact .inr ⟨k, j, rfl, hj, by simp [State.splitAt, hk, hj]⟩

/-- What a station's leaving service does to the line: nothing, where it is not an interior station, or a derivation anew. -/
theorem stationLeft_line (s : State) (st : StationId) :
    (LineKept s (s.stationLeft st) ∧ (s.isLineEnd st = true ∨ SegId.endingAt st = none ∨ s.spanFedBy st = none)) ∨
      Rederived s (s.stationLeft st) := by
  unfold State.stationLeft
  split
  · rename_i h
    left
    split
    · exact ⟨.refl s, .inl h⟩
    · exact ⟨lineKept_suspendSpan _, .inl h⟩
  · obtain ⟨e, h⟩ | ⟨k, j, -, -, e⟩ := mergeAt_cases s st <;> rw [e]
    · exact .inl ⟨.refl s, .inr h⟩
    · right
      split
      · exact rederived_mergeClosed k j
      · exact rederived_mergeOpen k j

theorem stationReturned_line (s : State) (st : StationId) :
    (LineKept s (s.stationReturned st) ∧
        (s.isLineEnd st = true ∨ ∀ k, SegId.endingAt st = some k → s.spanContaining k = none)) ∨
      Rederived s (s.stationReturned st) := by
  unfold State.stationReturned
  split
  · rename_i h
    left
    split
    · exact ⟨.refl s, .inl h⟩
    · exact ⟨lineKept_resumeSpan _, .inl h⟩
  · obtain ⟨e, h⟩ | ⟨k, j, -, -, e⟩ := splitAt_cases s st <;> rw [e]
    · exact .inl ⟨.refl s, .inr h⟩
    · right
      split
      · exact rederived_splitClosed k j
      · exact rederived_splitOpen k j

/-- The state of a service change before its effect on the spans: the new state recorded and told (R7). -/
def State.serviceTold (s : State) (st : StationId) (v : ServiceState) (e : Option LineTime) : State :=
  (s.recordService st v e).tellOthers st v

section
variable (s : State) (st : StationId) (v : ServiceState) (e : Option LineTime)

theorem serviceTold_noticesOnly : NoticesOnly (s.recordService st v e) (s.serviceTold st v e) :=
  tellOthers_noticesOnly _ _ _

theorem changeService_eq : s.changeService st v e =
    if s.inService st = true ∧ v ≠ .inService then (s.serviceTold st v e).stationLeft st
    else if s.inService st = false ∧ v = .inService then (s.serviceTold st v e).stationReturned st
    else s.serviceTold st v e := rfl

/-- What stands as a service change is recorded and told. -/
theorem serviceTold_same : (s.serviceTold st v e).config = s.config ∧ (s.serviceTold st v e).n = s.n ∧
    (s.serviceTold st v e).lineTime = s.lineTime ∧ (s.serviceTold st v e).free = s.free ∧
    (s.serviceTold st v e).queues = s.queues ∧ (s.serviceTold st v e).spans = s.spans ∧
    (s.serviceTold st v e).segments = s.segments ∧ (s.serviceTold st v e).watches = s.watches := by
  obtain ⟨hc, hn, hl, -, hf, hq, hs, hg, hw, -, -⟩ := (serviceTold_noticesOnly s st v e).same
  exact ⟨hc, hn, hl, hf, hq, hs, hg, hw⟩

theorem serviceTold_station (x : StationId) : (s.serviceTold st v e).station x =
    if x = st then { s.station st with service := v, silence := e } else s.station x := by
  obtain ⟨-, -, -, hst, -⟩ := (serviceTold_noticesOnly s st v e).same
  rw [State.station, hst]
  by_cases hx : x = st
  · subst hx
    rw [if_pos rfl]
    exact setStation_station_same s x _
  · rw [if_neg hx]
    exact setStation_station_ne s st _ hx

@[simp] theorem serviceTold_span (j : SpanId) : (s.serviceTold st v e).span j = s.span j := by
  obtain ⟨-, -, -, -, -, h, -⟩ := serviceTold_same s st v e
  rw [State.span, h]
  rfl

theorem serviceTold_inService (x : StationId) : (s.serviceTold st v e).inService x =
    if x = st then v == .inService else s.inService x := by
  simp only [State.inService, serviceTold_station]
  split <;> rfl

end

/-- A service change keeps the segments and the set-up, and leaves a topology derived from the new service states. -/
theorem changeService_line (s : State) (st : StationId) (v : ServiceState) (e : Option LineTime) (ht : s.topologyHolds) :
    (s.changeService st v e).config = s.config ∧ (s.changeService st v e).n = s.n ∧
      (s.changeService st v e).segments = s.segments ∧ (s.changeService st v e).topologyHolds := by
  obtain ⟨hc, hn, -, -, -, -, hg, -⟩ := serviceTold_same s st v e
  have hlines : ∀ j, ((s.serviceTold st v e).span j).line = (s.span j).line := fun j => by rw [serviceTold_span]
  have kept : ∀ t, LineKept (s.serviceTold st v e) t →
      (∀ x : StationId, 0 < x.val → x.val + 1 < s.n → x = st → (v == .inService) = s.inService st) →
      t.config = s.config ∧ t.n = s.n ∧ t.segments = s.segments ∧ t.topologyHolds := by
    intro t hk hint
    refine ⟨hk.config.trans hc, hk.n.trans hn, hk.segments.trans hg, hk.topologyHolds ⟨hn ▸ ht.1, fun j => ?_⟩⟩
    rw [hlines, ht.2 j]
    refine (lineOf_of_interior hn (fun x h0 h1 => ?_) (fun k => by simp [State.segment, hg]) j).symm
    rw [serviceTold_inService]
    split
    · rename_i hx
      rw [hint x h0 h1 hx, hx]
    · rfl
  have anew : ∀ t, Rederived (s.serviceTold st v e) t →
      t.config = s.config ∧ t.n = s.n ∧ t.segments = s.segments ∧ t.topologyHolds :=
    fun t h => ⟨h.1.trans hc, h.2.1.trans hn, h.2.2.2.1.trans hg, h.2.2.2.2 (hn ▸ ht.1)⟩
  have notEnd : ∀ x : StationId, 0 < x.val → x.val + 1 < s.n → ¬ (s.serviceTold st v e).isLineEnd x = true := by
    intro x h0 h1
    rw [isLineEnd_iff, hn]
    omega
  rw [changeService_eq]
  split
  · rename_i hleave
    obtain ⟨hk, hwhy⟩ | h := stationLeft_line (s.serviceTold st v e) st
    · refine kept _ hk fun x h0 h1 hx => ?_
      subst hx
      obtain ⟨k, j, -, -, hk, hj, -⟩ := interior_between ht h0 h1 hleave.1
      obtain hwhy | hwhy | hwhy := hwhy
      · exact absurd hwhy (notEnd x h0 h1)
      · rw [hk] at hwhy
        cases hwhy
      · rw [spanFedBy_congr hlines, hj] at hwhy
        cases hwhy
    · exact anew _ h
  · split
    · rename_i hreturn
      obtain ⟨hk, hwhy⟩ | h := stationReturned_line (s.serviceTold st v e) st
      · refine kept _ hk fun x h0 h1 hx => ?_
        subst hx
        obtain ⟨k, j, -, hk, hj, -⟩ := interior_inside ht h0 h1 hreturn.1
        obtain hwhy | hwhy := hwhy
        · exact absurd hwhy (notEnd x h0 h1)
        · have := hwhy k hk
          rw [spanContaining_congr hlines, hj] at this
          cases this
      · exact anew _ h
    · rename_i h1 h2
      refine kept _ (.refl _) fun x _ _ _ => ?_
      cases hin : s.inService st <;> cases v <;> simp_all

end

end Sys2Proof.Machine

end

section
/-! Topology, geometry and the empty line before configuration, through every command (R8 to R12, R128 to R139, R183). -/

namespace Sys2Proof.Machine

section
variable {s t : State}

/-- What a span derives depends on the segments it covers alone, where the service states stand. -/
theorem lineOf_of_covered (hn : t.n = s.n) (hs : ∀ st, t.inService st = s.inService st) {j : SpanId}
    (hg : ∀ k, (s.upstreamEnd j).val < k.num → k.num ≤ j.num → t.segment k = s.segment k) : t.lineOf j = s.lineOf j := by
  have hu := upstreamEnd_congr hn hs j
  have hj : t.segment j = s.segment j := hg j (derivedLine_upstream_lt s j) le_rfl
  have hmap : ∀ {β : Type} (f : Segment → β), (coveredSegments (s.upstreamEnd j) j).map (fun k => f (t.segment k)) =
      (coveredSegments (s.upstreamEnd j) j).map (fun k => f (s.segment k)) := by
    intro β f
    refine List.map_congr_left fun k hk => ?_
    simp only [coveredSegments, List.mem_filter, Bool.and_eq_true, decide_eq_true_eq] at hk
    rw [hg k hk.2.1 hk.2.2]
  simp only [State.lineOf, isSpanEnd_congr hn hs, State.derivedLine, State.thresholdsOver, State.sumOver, hu, hj,
    hmap (fun g => g.vSeg), hmap (fun g => g.settings.vC), hmap (fun g => g.settings.tLeak),
    hmap (fun g => g.settings.tDrift), hmap (fun g => g.settings.tDep)]

/-! An application of settings (R137 to R139). -/

theorem NoticesOnly.setSpan (h : NoticesOnly s t) (j : SpanId) (x : Span) : NoticesOnly (s.setSpan j x) (t.setSpan j x) := by
  refine ⟨?_, h.link⟩
  conv_lhs => rw [h.rest]
  rfl

/-- The segment that an application leaves. -/
def Segment.applied (g : Segment) (x : Settings) : Segment := { g.withSettings x with proposal := none }

/-- Whether an application changes a segment's geometry (R138). -/
def Segment.reshaped (g : Segment) (x : Settings) : Bool := g.settings.length != x.length || g.settings.dPipe != x.dPipe

/-- The record that an application leaves of the containing span: drawn from its segments anew, and, where the geometry
changed, with an epoch started unless it is CLOSED (R137 to R139). -/
def Span.redrawn (sp : Span) (line : Option SpanLine) (changed : Bool) (now : LineTime) : Span :=
  let x := { sp with line := line }
  if changed = true ∧ sp.state ≠ .closed then (x.epoch now).derive else x

theorem redrawn_of_changed {sp : Span} {line : Option SpanLine} {changed : Bool} (now : LineTime)
    (h : changed = true ∧ sp.state ≠ .closed) :
    sp.redrawn line changed now = (Span.epoch { sp with line := line } now).derive := if_pos h

theorem redrawn_of_same {sp : Span} {line : Option SpanLine} {changed : Bool} (now : LineTime)
    (h : ¬ (changed = true ∧ sp.state ≠ .closed)) : sp.redrawn line changed now = { sp with line := line } := if_neg h

/-- An application replaces the segment and redraws the containing span; the rest is notices (R137). -/
theorem applySettings_noticesOnly (s : State) (k : SegId) (x : Settings) {j : SpanId} (hj : s.spanContaining k = some j) :
    NoticesOnly ((s.setSegment k ((s.segment k).applied x)).setSpan j
        ((s.span j).redrawn ((s.setSegment k ((s.segment k).applied x)).lineOf j) ((s.segment k).reshaped x) s.lineTime))
      (s.applySettings k x) := by
  obtain ⟨u, hu, e⟩ := applySettings_cases s k x
  have hu : NoticesOnly (s.setSegment k ((s.segment k).applied x)) u := hu
  obtain ⟨-, -, hlt, -, -, -, hsp, -⟩ := hu.same
  have hspan : ∀ i, u.span i = s.span i := fun i => by rw [State.span, hsp]; rfl
  have hline : u.lineOf j = (s.setSegment k ((s.segment k).applied x)).lineOf j := hu.lineKept.lineOf j
  have hcont : u.spanContaining k = some j := by rw [spanContaining_congr (s := s) fun i => by rw [hspan], hj]
  rw [e]
  obtain ⟨hnone, -⟩ | ⟨i, hi, e⟩ := applyToSpan_cases u k ((s.segment k).reshaped x)
  · rw [hcont] at hnone
    cases hnone
  · rw [hcont] at hi
    cases hi
    change NoticesOnly _ (u.applyToSpan k ((s.segment k).reshaped x))
    rw [e]
    have hr : u.rederive j = u.setSpan j { s.span j with line := (s.setSegment k ((s.segment k).applied x)).lineOf j } := by
      rw [State.rederive, hspan, hline]
    by_cases hc : (s.segment k).reshaped x = true
    · rw [if_pos hc]
      by_cases ho : (s.span j).state = .closed
      · have hs : ((u.rederive j).span j).state = .closed := by rw [hr, setSpan_span_same]; exact ho
        rw [State.geometryEpoch, if_pos hs, hr, redrawn_of_same _ fun h => h.2 ho]
        exact hu.setSpan j _
      · have hs : ((u.rederive j).span j).state ≠ .closed := by rw [hr, setSpan_span_same]; exact ho
        have hg := geometryEpoch_noticesOnly (u.rederive j) j hs
        rw [redrawn_of_changed _ ⟨hc, ho⟩, ← show u.lineTime = s.lineTime from hlt]
        refine (hu.setSpan j _).trans ?_
        rw [hr] at hg ⊢
        simpa using hg
    · rw [if_neg hc, hr, redrawn_of_same _ fun h => hc h.1]
      exact hu.setSpan j _

theorem redrawn_line (sp : Span) (line : Option SpanLine) (changed : Bool) (now : LineTime) :
    (sp.redrawn line changed now).line = line := by
  unfold Span.redrawn
  simp only
  split <;> rfl

theorem applySettings_span (ht : s.topologyHolds) {k : SegId} (hk : k.num < s.n) (x : Settings) :
    ∃ j l, (s.span j).line = some l ∧ l.upstream.val < k.num ∧ k.num ≤ j.num ∧ s.spanContaining k = some j ∧
      (∀ i, i ≠ j → (s.setSegment k ((s.segment k).applied x)).lineOf i = s.lineOf i) := by
  obtain ⟨j, l, hl, hu, hj⟩ := exists_covering ht hk
  refine ⟨j, l, hl, hu, hj, spanContaining_eq ht hl hu hj, fun i hi => ?_⟩
  generalize hu' : s.setSegment k ((s.segment k).applied x) = u
  have hn : u.n = s.n := by rw [← hu']; rfl
  have hs : ∀ st, u.inService st = s.inService st := fun st => by rw [← hu']; rfl
  by_cases he : s.isSpanEnd i = true
  · refine lineOf_of_covered hn hs fun m hm1 hm2 => ?_
    rw [← hu']
    refine setSegment_segment_ne _ _ _ ?_
    rintro rfl
    have := spanContaining_eq ht (line_of_isSpanEnd ht he) hm1 hm2
    rw [spanContaining_eq ht hl hu hj] at this
    exact hi (Option.some.inj this).symm
  · simp [State.lineOf, isSpanEnd_congr hn hs, he]

/-! What each change keeps of the line. -/

/-- The configuration state and N stand, and topology and geometry are kept. -/
structure KeepsLine (s t : State) : Prop where
  config : t.config = s.config
  n : t.n = s.n
  topology : s.topologyHolds → t.topologyHolds
  geometry : s.geometryHolds → t.geometryHolds

theorem LineKept.keepsLine (h : LineKept s t) : KeepsLine s t := ⟨h.config, h.n, h.topologyHolds, h.geometryHolds⟩

theorem KeepsLine.trans {u : State} (h : KeepsLine s t) (k : KeepsLine t u) : KeepsLine s u :=
  ⟨k.config.trans h.config, k.n.trans h.n, fun hs => k.topology (h.topology hs), fun hs => k.geometry (h.geometry hs)⟩

theorem keepsLine_changeService (ht : s.topologyHolds) (st : StationId) (v : ServiceState) (e : Option LineTime) :
    KeepsLine s (s.changeService st v e) := by
  obtain ⟨hc, hn, hg, hT⟩ := changeService_line s st v e ht
  exact ⟨hc, hn, fun _ => hT, geometryHolds_congr hn hg⟩

theorem isSegment_iff {k : SegId} : s.isSegment k = true ↔ k.num < s.n := by simp [State.isSegment]

/-- A segment replaced by one in form. -/
theorem geometryHolds_setSegment {k : SegId} {g : Segment} (h : s.geometryHolds)
    (hg : k.num < s.n → g.settings.valid = true ∧ g.area = areaOf g.settings.dPipe ∧
      g.vSeg = vSegOf (areaOf g.settings.dPipe) g.settings.length)
    (hp : ∀ q, g.proposal = some q → q.settings.valid = true) : (s.setSegment k g).geometryHolds := by
  obtain ⟨hs, hq⟩ := h
  refine ⟨fun i hi => ?_, fun i q => ?_⟩
  · by_cases hik : i = k
    · subst hik
      simpa using hg (isSegment_iff.1 hi)
    · simpa [hik] using hs i hi
  · by_cases hik : i = k
    · subst hik
      simpa using hp q
    · simpa [hik] using hq i q

/-- A proposal recorded or removed: the topology does not depend on it. -/
theorem keepsLine_setProposal (k : SegId) {q : Option Proposal} (hq : ∀ x, q = some x → x.settings.valid = true) :
    KeepsLine s (s.setSegment k { s.segment k with proposal := q }) := by
  refine ⟨rfl, rfl, fun ht => ⟨ht.1, fun j => ?_⟩, fun hg => geometryHolds_setSegment hg (fun hk => ?_) hq⟩
  · rw [setSegment_span, ht.2 j]
    refine (lineOf_of_interior (s := s) (t := s.setSegment k { s.segment k with proposal := q }) rfl (fun _ _ _ => rfl) (fun i => ?_) j).symm
    by_cases hi : i = k
    · subst hi
      simp
    · simp [hi]
  · exact hg.1 k (isSegment_iff.2 hk)

theorem keepsLine_applySettings (ht : s.topologyHolds) {k : SegId} (hk : k.num < s.n) {q : Proposal}
    (hq : (s.segment k).proposal = some q) : KeepsLine s (s.applySettings k q.settings) := by
  obtain ⟨j, l, -, -, -, hj, hother⟩ := applySettings_span ht hk q.settings
  have h := (applySettings_noticesOnly s k q.settings hj).lineKept
  refine ⟨h.config, h.n, fun _ => h.topologyHolds ⟨ht.1, fun i => ?_⟩, fun hg => h.geometryHolds ?_⟩
  · rw [lineOf_setSpan]
    by_cases hi : i = j
    · subst hi
      rw [setSpan_span_same, redrawn_line]
    · rw [setSpan_span_ne _ _ _ hi, hother i hi, setSegment_span, ht.2]
  · exact geometryHolds_congr (s := s.setSegment k ((s.segment k).applied q.settings)) rfl rfl
      (geometryHolds_setSegment hg (fun _ => ⟨hg.2 k q hq, rfl, rfl⟩) fun x hx => by cases hx)

/-- What a block's answer keeps of the line. -/
theorem Answers.keepsLine {p : PortId} (h : Answers p s t) (ht : s.topologyHolds) : KeepsLine s t := by
  cases h with
  | same => exact (LineKept.refl s).keepsLine
  | stationIn hout => exact keepsLine_changeService ht p _ _
  | stationOut hnot => exact keepsLine_changeService ht p _ _
  | readingQueued r hr hlen hq => exact (lineKept_setStation (by rfl)).keepsLine
  | readingAtHead r hr hq =>
    have hacc : LineKept s (s.acceptReading p r) := lineKept_setStation (by rfl)
    exact (hacc.trans (lineKept_convertHead p)).keepsLine
  | resolved r rest c c' m hq hr => exact (lineKept_settleHead p _ rest).keepsLine
  | bankWritten b w x hx => exact (lineKept_setStation (by rfl)).keepsLine
  | bankSelected b => exact (lineKept_setStation (by rfl)).keepsLine
  | spanOpened j l cFill hl hp hc he hf => exact (lineKept_openSpan j l cFill).keepsLine
  | spanClosed j l hl hc => exact (lineKept_closeSpan j).keepsLine
  | verdictCleared j l hl =>
    exact ((lineKept_setSpan (by rfl)).trans (noticesOnly_announceVerdict _ _ _).lineKept).keepsLine
  | proposed k x hk hp hx =>
    exact (keepsLine_setProposal k fun y hy => by cases hy; exact hx).trans
      (recordProposal_noticesOnly s p k x).lineKept.keepsLine
  | applied k q hk hq => exact keepsLine_applySettings ht hk hq
  | withdrawn k hk hp =>
    exact (keepsLine_setProposal k fun y hy => by cases hy).trans (noticesOnly_raise _ _ _ _).lineKept.keepsLine
  | watchOwned i w hw => exact (lineKept_setWatch i w).keepsLine
  | watchesFrozen flag => exact (samplesOnly_freezeOwned s p flag).lineKept.keepsLine
  | noticeTaken urgent routine hu => exact (lineKept_setPort _ _).keepsLine

/-! Acceptance and reset. -/

theorem imageAccepted_iff (img : List Byte) : imageAccepted img = true ↔ ∀ c ∈ imageChecks img, c = true := by
  simp [imageAccepted]

theorem imageN_range {img : List Byte} (h : imageAccepted img = true) : 2 ≤ imageN img ∧ imageN img ≤ 4 := by
  have := (imageAccepted_iff img).1 h (within 2 4 (imageN img)) (by simp [imageChecks])
  simpa [within] using this

theorem imageSettings_valid {img : List Byte} (h : imageAccepted img = true) {k : SegId} (hk : k.num < imageN img) :
    (imageSettings img k).valid = true := by
  have := (imageAccepted_iff img).1 h (SegId.all.all fun k => !decide (k.num < imageN img) || (imageSettings img k).valid)
    (by simp [imageChecks])
  have hm : k ∈ SegId.all := by cases k <;> decide
  simpa [hk] using List.all_eq_true.1 this k hm

theorem accept_topologyHolds {img : List Byte} (h : imageAccepted img = true) : (s.accept img).topologyHolds := by
  obtain ⟨-, hn, -⟩ := accept_same s img
  refine ⟨by rw [hn]; exact (imageN_range h).2, fun j => ?_⟩
  rw [accept_span]
  refine (lineOf_congr ?_ (fun st => ?_) (fun k => accept_segment s img k) j).symm
  · rw [hn, loaded_rest]
    rfl
  · simp only [State.inService, accept_station]

theorem accept_geometryHolds {img : List Byte} (h : imageAccepted img = true) (hg : s.geometryHolds) :
    (s.accept img).geometryHolds := by
  obtain ⟨-, hn, -⟩ := accept_same s img
  refine ⟨fun k hk => ?_, fun k q hq => ?_⟩
  · rw [isSegment_iff, hn] at hk
    rw [accept_segment, loaded_segment, if_pos hk]
    exact ⟨imageSettings_valid h hk, rfl, rfl⟩
  · rw [accept_segment, loaded_segment] at hq
    split at hq
    · exact hg.2 k q hq
    · exact hg.2 k q hq

theorem reset_span (pending : List Instr) (j : SpanId) :
    State.span { State.reset with pending := pending } j = Span.blank := Trio.get_fill _ _

theorem reset_segment (pending : List Instr) (k : SegId) :
    State.segment { State.reset with pending := pending } k = Segment.atReset := Trio.get_fill _ _

theorem reset_station (pending : List Instr) (st : StationId) :
    State.station { State.reset with pending := pending } st = Station.atReset := Quad.get_fill _ _

theorem reset_queue (pending : List Instr) (j : SpanId) :
    State.queue { State.reset with pending := pending } j = [] := Trio.get_fill _ _

theorem reset_watch (pending : List Instr) (i : WatchId) :
    State.watch { State.reset with pending := pending } i = Watch.free := Octet.get_fill _ _

theorem reset_port (pending : List Instr) (p : PortId) :
    State.port { State.reset with pending := pending } p = Port.atReset := Quad.get_fill _ _

theorem reset_topologyHolds (pending : List Instr) : State.topologyHolds { State.reset with pending := pending } := by
  refine ⟨Nat.zero_le 4, fun j => ?_⟩
  rw [reset_span, State.lineOf, if_neg]
  · rfl
  · intro h
    exact absurd (isSpanEnd_lt h) (Nat.not_lt_zero _)

theorem reset_geometryHolds (pending : List Instr) : State.geometryHolds { State.reset with pending := pending } := by
  refine ⟨fun k hk => absurd (isSegment_iff.1 hk) (Nat.not_lt_zero _), fun k q hq => ?_⟩
  rw [reset_segment] at hq
  cases hq

theorem refuseImage_lineKept : LineKept { s with config := .unconfigured } s.refuseImage := by
  rw [refuseImage_rest]
  exact .of_fields rfl rfl rfl rfl rfl

/-! Every command. -/

theorem lineKept_reply (p : PortId) (kind : Byte) (code : Result) (body : ReplyBody) :
    LineKept s (s.reply p kind code body) := lineKept_setPort _ _

theorem lineKept_setRx (p : PortId) (rx : Receiver) : LineKept s (s.setRx p rx) := lineKept_setPort _ _

/-- Every command but a reset and the end of the image read keeps the configuration state, N, topology and geometry. -/
theorem Steps.keepsLine_or (h : Steps s t) (ht : s.topologyHolds) : KeepsLine s t ∨
    (∃ pending, t = { State.reset with pending := pending }) ∨
    (s.config = .loading ∧ t = s.refuseImage) ∨
    ∃ img, s.config = .loading ∧ imageAccepted img = true ∧ t = s.accept img := by
  cases h with
  | reset => exact .inr (.inl ⟨_, rfl⟩)
  | accept img hc ha => exact .inr (.inr (.inr ⟨img, hc, ha, rfl⟩))
  | refuseImage hc => exact .inr (.inr (.inl ⟨hc, rfl⟩))
  | same => exact .inl (LineKept.refl s).keepsLine
  | tick => exact .inl (LineKept.of_fields (s := s) (t := { s with lineTime := s.lineTime + 1 }) rfl rfl rfl rfl rfl).keepsLine
  | silence st hin => exact .inl (keepsLine_changeService ht st _ _)
  | resolve st r rest c c' m hq hr => exact .inl (lineKept_settleHead st _ rest).keepsLine
  | agreement k q hq =>
    exact .inl ((keepsLine_setProposal k fun y hy => by cases hy).trans (noticesOnly_raise _ _ _ _).lineKept.keepsLine)
  | holdEnds j => exact .inl (lineKept_setSpan (by rfl)).keepsLine
  | tripFalls p hc => exact .inl ((lineKept_setPort _ _).trans (lineKept_trippedBy p)).keepsLine
  | tripReleased p => exact .inl (lineKept_setPort _ _).keepsLine
  | received p rx => exact .inl (lineKept_setRx p rx).keepsLine
  | replied p kind code hb => exact .inl ((lineKept_setRx p .hunt).trans (lineKept_reply _ _ _ _)).keepsLine
  | answered p r u kind result body hb hp hu =>
    subst hu
    have h1 : LineKept s (s.setRx p .hunt) := lineKept_setRx p .hunt
    exact .inl ((h1.keepsLine.trans ((answerTo_answers p r _).keepsLine (h1.topologyHolds ht))).trans
      (lineKept_reply _ _ _ _).keepsLine)
  | restarted p => exact .inl ((lineKept_setPort _ _).trans (lineKept_setStation (by rfl))).keepsLine
  | replySent p => exact .inl (lineKept_setPort _ _).keepsLine
  | granted p r c m hr => exact .inl (lineKept_applyGrant p r c m).keepsLine

theorem Steps.topologyHolds (h : Steps s t) (ht : s.topologyHolds) : t.topologyHolds := by
  obtain hk | ⟨pending, rfl⟩ | ⟨-, rfl⟩ | ⟨img, -, ha, rfl⟩ := h.keepsLine_or ht
  · exact hk.topology ht
  · exact reset_topologyHolds pending
  · exact refuseImage_lineKept.topologyHolds ht
  · exact accept_topologyHolds ha

theorem Steps.geometryHolds (h : Steps s t) (ht : s.topologyHolds) (hg : s.geometryHolds) : t.geometryHolds := by
  obtain hk | ⟨pending, rfl⟩ | ⟨-, rfl⟩ | ⟨img, -, ha, rfl⟩ := h.keepsLine_or ht
  · exact hk.geometry hg
  · exact reset_geometryHolds pending
  · exact refuseImage_lineKept.geometryHolds hg
  · exact accept_geometryHolds ha hg

theorem Steps.emptyUntilConfigured (h : Steps s t) (ht : s.topologyHolds) (he : s.emptyUntilConfigured) :
    t.emptyUntilConfigured := by
  intro hc
  obtain hk | ⟨pending, rfl⟩ | ⟨hl, rfl⟩ | ⟨img, -, -, rfl⟩ := h.keepsLine_or ht
  · rw [hk.n]
    exact he (hk.config ▸ hc)
  · rfl
  · rw [refuseImage_lineKept.n]
    exact he (by simp [hl])
  · exact absurd (accept_same s img).1 hc

end

end Sys2Proof.Machine

end

section
/-! What the balance engine and the span table can change: the store, the span records, and what notices and samples change. -/

namespace Sys2Proof.Machine

/-- A state that differs from another in the store, the span records, watch values, notice queues and attention lines alone. -/
structure EngineOnly (s t : State) : Prop where
  rest : t = { s with free := t.free, queues := t.queues, spans := t.spans, watches := t.watches, ports := t.ports }
  link : ∀ p, (t.port p).linkOf = (s.port p).linkOf
  setting : ∀ i, (t.watch i).setting = (s.watch i).setting

section
variable {s t u : State}

theorem EngineOnly.refl (s : State) : EngineOnly s s := ⟨rfl, fun _ => rfl, fun _ => rfl⟩

theorem EngineOnly.trans (h : EngineOnly s t) (k : EngineOnly t u) : EngineOnly s u := by
  refine ⟨?_, fun p => (k.link p).trans (h.link p), fun i => (k.setting i).trans (h.setting i)⟩
  have h1 := h.rest
  have k1 := k.rest
  rw [h1] at k1
  simpa using k1

theorem EngineOnly.sameSetUp (h : EngineOnly s t) : s.sameSetUp t := by
  rw [h.rest]
  exact s.sameSetUp_refl

/-- What the engine and the span table leave. -/
theorem EngineOnly.same (h : EngineOnly s t) : t.stations = s.stations ∧ t.segments = s.segments ∧
    t.lastGranted = s.lastGranted := by
  rw [h.rest]
  exact ⟨rfl, rfl, rfl⟩

theorem EngineOnly.station_eq (h : EngineOnly s t) (st : StationId) : t.station st = s.station st := by
  rw [State.station, h.same.1]
  rfl

theorem EngineOnly.segment_eq (h : EngineOnly s t) (k : SegId) : t.segment k = s.segment k := by
  rw [State.segment, h.same.2.1]
  rfl

theorem EngineOnly.sameLinks (h : EngineOnly s t) : s.sameLinks t := h.link

theorem EngineOnly.owner_eq (h : EngineOnly s t) (i : WatchId) : (t.watch i).owner = (s.watch i).owner :=
  owner_of_setting (h.setting i)

theorem StoreOnly.engineOnly (h : StoreOnly s t) : EngineOnly s t := by
  refine ⟨?_, fun p => ?_, h.setting⟩
  · have := h.rest
    rw [this]
  · obtain ⟨a, b, c, d⟩ := h.link p
    simp only [Port.linkOf, a, b, c, d]

theorem SamplesOnly.engineOnly (h : SamplesOnly s t) : EngineOnly s t := h.storeOnly.engineOnly

theorem NoticesOnly.engineOnly (h : NoticesOnly s t) : EngineOnly s t := h.samplesOnly.engineOnly

theorem engineOnly_setSpan (j : SpanId) (x : Span) : EngineOnly s (s.setSpan j x) := ⟨rfl, fun _ => rfl, fun _ => rfl⟩

theorem engineOnly_rederiveAll : EngineOnly s s.rederiveAll :=
  ((engineOnly_setSpan _ _).trans (engineOnly_setSpan _ _)).trans (engineOnly_setSpan _ _)

theorem engineOnly_restartSpan (j : SpanId) : EngineOnly s (s.restartSpan j) := engineOnly_setSpan _ _

theorem engineOnly_holdIfTouched (st : StationId) (j : SpanId) : EngineOnly s (s.holdIfTouched st j) := by
  unfold State.holdIfTouched
  split
  · exact engineOnly_setSpan _ _
  · exact .refl s

theorem engineOnly_trippedBy (st : StationId) : EngineOnly s (s.trippedBy st) :=
  ((engineOnly_holdIfTouched _ _).trans (engineOnly_holdIfTouched _ _)).trans (engineOnly_holdIfTouched _ _)

theorem engineOnly_balanceUpdate (j : SpanId) (l : SpanLine) (c : Conversion) (m : Nat) :
    EngineOnly s (s.balanceUpdate j l c m) :=
  ((storeOnly_drained _ _ _).engineOnly.trans (engineOnly_setSpan _ _)).trans
    (balanceUpdate_samplesOnly s j l c m).engineOnly

theorem engineOnly_inflowTo (j : SpanId) (l : SpanLine) (st : StationId) (b : BankId) (c : Conversion) (m : Nat) :
    EngineOnly s (s.inflowTo j l st b c m) := by
  by_cases hv : c.v = 0
  · rw [inflowTo_idle _ _ _ _ _ _ _ hv]
    exact engineOnly_setSpan _ _
  · refine EngineOnly.trans ?_ (inflowTo_samplesOnly s j l st b c m hv).engineOnly
    exact ((storeOnly_allocate s).trans (storeOnly_append _ _ _)).engineOnly.trans (engineOnly_setSpan _ _)

theorem engineOnly_outflowSide (st : StationId) (c : Conversion) (m : Nat) : EngineOnly s (s.outflowSide st c m) := by
  obtain e | ⟨j, l, -, -, -, e⟩ := outflowSide_cases s st c m <;> rw [e]
  · exact .refl s
  · exact engineOnly_balanceUpdate j l c m

theorem engineOnly_inflowSide (st : StationId) (b : BankId) (c : Conversion) (m : Nat) :
    EngineOnly s (s.inflowSide st b c m) := by
  obtain e | ⟨j, l, -, -, -, e⟩ := inflowSide_cases s st b c m <;> rw [e]
  · exact .refl s
  · exact engineOnly_inflowTo j l st b c m

theorem engineOnly_openSpan (j : SpanId) (l : SpanLine) (cFill : Nat) : EngineOnly s (s.openSpan j l cFill) := by
  obtain ⟨p, -, h⟩ := openSpan_noticesOnly s j l cFill
  exact (((storeOnly_allocate s).trans (storeOnly_append _ _ p)).engineOnly.trans (engineOnly_setSpan _ _)).trans
    h.engineOnly

theorem engineOnly_closeSpan (j : SpanId) : EngineOnly s (s.closeSpan j) :=
  ((storeOnly_release s j).engineOnly.trans (engineOnly_setSpan _ _)).trans (closeSpan_noticesOnly s j).engineOnly

theorem engineOnly_suspendSpan (j : SpanId) : EngineOnly s (s.suspendSpan j) := by
  by_cases h : (s.span j).state = .opened
  · exact (engineOnly_setSpan _ _).trans (suspendSpan_noticesOnly s j h).engineOnly
  · simpa [State.suspendSpan, h] using EngineOnly.refl s

theorem engineOnly_resumeSpan (j : SpanId) : EngineOnly s (s.resumeSpan j) := by
  unfold State.resumeSpan
  split
  · exact .refl s
  · split
    · exact (engineOnly_setSpan _ _).trans
        ((noticesOnly_raiseSpan _ _ _).trans (noticesOnly_announceVerdict _ _ _)).engineOnly
    · exact .refl s

theorem engineOnly_mergeClosed (k j : SpanId) : EngineOnly s (s.mergeClosed k j) := by
  have h := (storeOnly_releaseUnless s k ((s.span k).state = .closed)).trans
    (storeOnly_releaseUnless _ j ((s.span j).state = .closed))
  have hm := mergeClosed_noticesOnly s k j _ _ rfl rfl
  generalize (if (s.span j).state = .closed then (if (s.span k).state = .closed then s else s.release k)
    else State.release (if (s.span k).state = .closed then s else s.release k) j) = b at hm h
  exact (((h.engineOnly.trans (engineOnly_setSpan _ _)).trans (engineOnly_setSpan _ _)).trans
    engineOnly_rederiveAll).trans hm.engineOnly

theorem engineOnly_mergeOpen (k j : SpanId) : EngineOnly s (s.mergeOpen k j) := by
  have h := storeOnly_divert s k j
  have hm := mergeOpen_noticesOnly s k j
  generalize s.divert k j = b at hm h
  exact ((((h.engineOnly.trans (engineOnly_setSpan _ _)).trans (engineOnly_setSpan _ _)).trans
    engineOnly_rederiveAll).trans (engineOnly_restartSpan _)).trans hm.engineOnly

theorem engineOnly_splitClosed (k j : SpanId) : EngineOnly s (s.splitClosed k j) :=
  ((engineOnly_setSpan _ _).trans engineOnly_rederiveAll).trans (splitClosed_noticesOnly s k j).engineOnly

theorem engineOnly_splitOpen (k j : SpanId) : EngineOnly s (s.splitOpen k j) := by
  have ha : EngineOnly s (s.setSpan k Span.blank).rederiveAll := (engineOnly_setSpan _ _).trans engineOnly_rederiveAll
  have h := splitOpen_noticesOnly s k j _ _ rfl rfl
  generalize (s.setSpan k Span.blank).rederiveAll = a at h ha
  have hs := (storeOnly_splitQueue a k j (a.span j).vSpan).engineOnly
  generalize a.splitQueue k j (a.span j).vSpan = b at h hs
  exact (((((ha.trans hs).trans (engineOnly_setSpan _ _)).trans (engineOnly_setSpan _ _)).trans
    (engineOnly_restartSpan _)).trans (engineOnly_restartSpan _)).trans h.engineOnly

theorem engineOnly_stationLeft (st : StationId) : EngineOnly s (s.stationLeft st) := by
  unfold State.stationLeft
  split
  · split
    · exact .refl s
    · exact engineOnly_suspendSpan _
  · obtain ⟨e, -⟩ | ⟨k, j, -, -, e⟩ := mergeAt_cases s st <;> rw [e]
    · exact .refl s
    · split
      · exact engineOnly_mergeClosed k j
      · exact engineOnly_mergeOpen k j

theorem engineOnly_stationReturned (st : StationId) : EngineOnly s (s.stationReturned st) := by
  unfold State.stationReturned
  split
  · split
    · exact .refl s
    · exact engineOnly_resumeSpan _
  · obtain ⟨e, -⟩ | ⟨k, j, -, -, e⟩ := splitAt_cases s st <;> rw [e]
    · exact .refl s
    · split
      · exact engineOnly_splitClosed k j
      · exact engineOnly_splitOpen k j

/-- A service change records the station's service and silence timer; the rest is the span table (R7). -/
theorem changeService_engineOnly (st : StationId) (v : ServiceState) (e : Option LineTime) :
    EngineOnly (s.recordService st v e) (s.changeService st v e) := by
  refine (serviceTold_noticesOnly s st v e).engineOnly.trans ?_
  rw [changeService_eq]
  split
  · exact engineOnly_stationLeft st
  · split
    · exact engineOnly_stationReturned st
    · exact .refl _

/-! The application of settings. -/

/-- An application changes the segment; the rest is the span table (R137). -/
theorem applySettings_engineOnly (ht : s.topologyHolds) {k : SegId} (hk : k.num < s.n) (x : Settings) :
    EngineOnly (s.setSegment k ((s.segment k).applied x)) (s.applySettings k x) := by
  obtain ⟨j, l, -, -, -, hj, -⟩ := applySettings_span ht hk x
  exact (engineOnly_setSpan _ _).trans (applySettings_noticesOnly s k x hj).engineOnly

/-! Readings. -/

/-- A station after the conversion of its head, at line time plus T_res where a resolve is raised (R31, R39). -/
def Station.headConverted (x : Station) (expiry : LineTime) : Station :=
  match x.queue with
  | [] => x
  | r :: rest =>
    let stage := convert (x.banks.get r.bank) x.lastGood r
    { x with
      queue := { r with stage := stage } :: rest
      lastGood := lastGoodAfter (x.banks.get r.bank) x.lastGood r
      resolve :=
        match stage with
        | .awaiting _ => some expiry
        | _ => x.resolve }

section
variable {x : Station} {r : Reading} {rest : List Reading} {stage : Stage} {e : LineTime}

theorem headConverted_of_empty (h : x.queue = []) : x.headConverted e = x := by
  unfold Station.headConverted
  rw [h]

theorem headConverted_of_awaiting {c : Conversion} (h : x.queue = r :: rest)
    (hc : convert (x.banks.get r.bank) x.lastGood r = .awaiting c) : x.headConverted e = { x with
      queue := { r with stage := .awaiting c } :: rest
      lastGood := lastGoodAfter (x.banks.get r.bank) x.lastGood r
      resolve := some e } := by
  unfold Station.headConverted
  rw [h]
  simp only [hc]

theorem headConverted_of_settled (h : x.queue = r :: rest) (hs : convert (x.banks.get r.bank) x.lastGood r = stage)
    (hc : ∀ c, stage ≠ .awaiting c) : x.headConverted e = { x with
      queue := { r with stage := stage } :: rest
      lastGood := lastGoodAfter (x.banks.get r.bank) x.lastGood r } := by
  unfold Station.headConverted
  rw [h]
  simp only [hs]

variable {st : StationId}

theorem convertHead_of_empty (h : (s.station st).queue = []) : s.convertHead st = s := by
  simp only [State.convertHead, h]

theorem convertHead_of_awaiting {c : Conversion} (h : (s.station st).queue = r :: rest)
    (hc : convert ((s.station st).banks.get r.bank) (s.station st).lastGood r = .awaiting c) :
    s.convertHead st = (s.setStation st { s.station st with
      queue := { r with stage := .awaiting c } :: rest
      lastGood := lastGoodAfter ((s.station st).banks.get r.bank) (s.station st).lastGood r }).raiseResolve st r c := by
  simp only [State.convertHead, h, hc]

theorem convertHead_of_settled (h : (s.station st).queue = r :: rest)
    (hs : convert ((s.station st).banks.get r.bank) (s.station st).lastGood r = stage) (hc : ∀ c, stage ≠ .awaiting c) :
    s.convertHead st = s.setStation st { s.station st with
      queue := { r with stage := stage } :: rest
      lastGood := lastGoodAfter ((s.station st).banks.get r.bank) (s.station st).lastGood r } := by
  simp only [State.convertHead, h, hs]

end

/-- The conversion of a new head changes its station; the rest is a notice and a sample (R31, R39). -/
theorem convertHead_samplesOnly_headConverted (s : State) (st : StationId) :
    SamplesOnly (s.setStation st ((s.station st).headConverted (expiryAfter s.lineTime s.tRes))) (s.convertHead st) := by
  cases hq : (s.station st).queue with
  | nil =>
    rw [convertHead_of_empty hq, headConverted_of_empty hq, setStation_station]
    exact .refl s
  | cons r rest =>
    cases hc : convert ((s.station st).banks.get r.bank) (s.station st).lastGood r with
    | awaiting c =>
      rw [convertHead_of_awaiting hq hc, headConverted_of_awaiting hq hc]
      have h := raiseResolve_samplesOnly (s.setStation st { s.station st with
        queue := { r with stage := .awaiting c } :: rest
        lastGood := lastGoodAfter ((s.station st).banks.get r.bank) (s.station st).lastGood r }) st r c
      simpa using h
    | queued =>
      rw [convertHead_of_settled hq hc (by simp), headConverted_of_settled hq hc (by simp)]
      exact .refl _
    | ready c m =>
      rw [convertHead_of_settled hq hc (by simp), headConverted_of_settled hq hc (by simp)]
      exact .refl _

theorem convertHead_station_same (s : State) (st : StationId) :
    (s.convertHead st).station st = (s.station st).headConverted (expiryAfter s.lineTime s.tRes) := by
  rw [(convertHead_samplesOnly_headConverted s st).engineOnly.station_eq, setStation_station_same]

theorem convertHead_station_ne (s : State) {st x : StationId} (h : x ≠ st) :
    (s.convertHead st).station x = s.station x := by
  rw [(convertHead_samplesOnly_headConverted s st).engineOnly.station_eq, setStation_station_ne _ _ _ h]

/-- A granted reading changes the engine, and then its station's queue (R45, R46). -/
theorem applyGrant_engineOnly (p : PortId) (r : Reading) (c : Conversion) (m : Nat) :
    EngineOnly { s with lastGranted := some p }
      (State.inflowSide (State.outflowSide { s with lastGranted := some p } p c m) p r.bank c m) :=
  (engineOnly_outflowSide p c m).trans (engineOnly_inflowSide p r.bank c m)

end

end Sys2Proof.Machine

end

section
/-! O59: every step keeps reading queues in form, the banks of configured stations valid, and unused ports untouched. -/

namespace Sys2Proof.Machine

/-! One station. -/

/-- What O59 keeps of a station, by whether its index is configured. -/
def Station.fits (used : Bool) (x : Station) : Prop :=
  x.queueHolds ∧ (used = true → ∀ b, (x.banks.get b).valid) ∧ (used = false → x.queue = [])

section
variable {used : Bool} {x y : Station} {r : Reading} {rest : List Reading} {e : LineTime}

theorem fits_of_same (h : x.fits used) (hq : y.queue = x.queue) (hr : y.resolve = x.resolve) (hb : y.banks = x.banks) :
    y.fits used := by
  simpa only [Station.fits, Station.queueHolds, Station.headState, hq, hr, hb] using h

theorem fits_bank (h : x.fits used) (b : BankId) {z : Bank} (hz : z.valid) :
    Station.fits used { x with banks := x.banks.set b z } := by
  obtain ⟨hq, hb, hu⟩ := h
  refine ⟨hq, fun huse i => ?_, hu⟩
  by_cases hi : i = b
  · subst hi
    simpa using hz
  · simpa [hi] using hb huse i

theorem queueHolds_of_empty (hq : x.queue = []) (hr : x.resolve = none) : x.queueHolds := by
  simp [Station.queueHolds, Station.headState, hq, hr]

theorem fits_emptied (h : x.fits used) (hq : y.queue = []) (hr : y.resolve = none) (hb : y.banks = x.banks) :
    y.fits used := by
  obtain ⟨-, hbanks, -⟩ := h
  exact ⟨queueHolds_of_empty hq hr, by simpa only [hb] using hbanks, fun _ => hq⟩

/-- A queue whose head is READY, with no resolve timer. -/
theorem queueHolds_of_ready {c : Conversion} {m : Nat} (hq : x.queue = r :: rest) (hc : r.stage = .ready c m)
    (hl : rest.length < 8) (ht : ∀ q ∈ rest, q.stage = .queued) (hr : x.resolve = none) : x.queueHolds := by
  refine ⟨by simp [hq]; omega, by simp [hq, hc], by simpa [hq] using ht, by simp [Station.headState, hq, hc, hr]⟩

/-- A queue whose head is AWAITING, with a resolve timer. -/
theorem queueHolds_of_awaiting {c : Conversion} (hq : x.queue = r :: rest) (hc : r.stage = .awaiting c)
    (hl : rest.length < 8) (ht : ∀ q ∈ rest, q.stage = .queued) (hr : x.resolve = some e) : x.queueHolds := by
  refine ⟨by simp [hq]; omega, by simp [hq, hc], by simpa [hq] using ht, by simp [Station.headState, hq, hc, hr]⟩

theorem lastGoodHold_ne_queued (lg : Option Composition) (c : Conversion) : lastGoodHold lg c ≠ .queued := by
  unfold lastGoodHold
  split <;> simp

/-- A conversion makes a reading READY or AWAITING (R31). -/
theorem convert_ne_queued (b : Bank) (lg : Option Composition) (r : Reading) : convert b lg r ≠ .queued := by
  unfold convert
  simp only
  split
  · rename_i stage hs
    unfold convertInRange at hs
    split at hs <;> cases hs <;> simp
  · split
    · unfold convertLimit
      split
      · simp
      · simp
      · exact lastGoodHold_ne_queued _ _
    · simp

/-- The conversion of the head of a queue of QUEUED readings puts the queue in form (R31, R39). -/
theorem fits_headConverted (hq : ∀ q ∈ x.queue, q.stage = .queued) (hl : x.queue.length ≤ 8) (hr : x.resolve = none)
    (hb : used = true → ∀ b, (x.banks.get b).valid) (hu : used = false → x.queue = []) :
    (x.headConverted e).fits used := by
  cases hx : x.queue with
  | nil =>
    rw [headConverted_of_empty hx]
    exact ⟨queueHolds_of_empty hx hr, hb, hu⟩
  | cons r rest =>
    have hused : used = false → False := fun h => by simp [hu h] at hx
    have ht : ∀ q ∈ rest, q.stage = .queued := fun q hm => hq q (by simp [hx, hm])
    have hlen : rest.length < 8 := by simp only [hx, List.length_cons] at hl; omega
    cases hc : convert (x.banks.get r.bank) x.lastGood r with
    | awaiting c =>
      rw [headConverted_of_awaiting hx hc]
      exact ⟨queueHolds_of_awaiting rfl rfl hlen ht rfl, hb, fun h => (hused h).elim⟩
    | queued => exact absurd hc (convert_ne_queued _ _ _)
    | ready c m =>
      rw [headConverted_of_settled hx hc (by simp)]
      exact ⟨queueHolds_of_ready rfl rfl hlen ht hr, hb, fun h => (hused h).elim⟩

/-- A reading behind others joins the tail (R25). -/
theorem fits_queued (h : x.fits true) (hl : x.queue.length < 8) (hq : x.queue ≠ []) (hr : r.stage = .queued)
    (hy : y.queue = x.queue ++ [r]) (hres : y.resolve = x.resolve) (hb : y.banks = x.banks) : y.fits true := by
  obtain ⟨⟨-, hhead, htail, htimer⟩, hbanks, -⟩ := h
  cases hx : x.queue with
  | nil => exact absurd hx hq
  | cons a as =>
    rw [hx] at hl hhead htail hy
    have hstate : y.headState = x.headState := by simp [Station.headState, hx, hy]
    refine ⟨⟨?_, ?_, ?_, by rw [hres, hstate]; exact htimer⟩, by simpa only [hb] using hbanks, fun h => by cases h⟩
    · simp only [hy, List.length_append, List.length_cons, List.length_nil] at hl ⊢
      omega
    · simpa [hy] using hhead
    · intro q hm
      rw [hy, List.cons_append, List.tail_cons, List.mem_append] at hm
      obtain hm | hm := hm
      · exact htail q hm
      · rw [List.mem_singleton.1 hm, hr]

/-- The head made READY and its resolve timer stopped (R40, R41). -/
theorem fits_settled {c : Conversion} {m : Nat} (h : x.fits used) (hx : x.queue = r :: rest)
    (hy : y.queue = { r with stage := .ready c m } :: rest) (hres : y.resolve = none) (hb : y.banks = x.banks) :
    y.fits used := by
  obtain ⟨⟨hl, -, htail, -⟩, hbanks, hu⟩ := h
  rw [hx] at hl htail
  refine ⟨queueHolds_of_ready hy rfl (by simpa using hl) htail hres, by simpa only [hb] using hbanks, fun h => ?_⟩
  rw [hu h] at hx
  cases hx

/-- The READY head gone and the next one converted (R45). -/
theorem fits_headRemoved {c : Conversion} {m : Nat} (h : x.fits used) (hr : x.readyHead = some (r, c, m)) :
    (Station.headConverted { x with queue := x.queue.tail } e).fits used := by
  obtain ⟨⟨hl, -, htail, htimer⟩, hbanks, hu⟩ := h
  have hres : x.resolve = none := by
    obtain ⟨hhead, hs⟩ := headReady_iff.2 hr
    cases hq : x.queue with
    | nil => simp [hq] at hhead
    | cons a as =>
      simp only [hq, List.head?_cons, Option.some.injEq] at hhead
      subst hhead
      simpa [Station.headState, hq, hs] using htimer
  refine fits_headConverted htail ?_ hres hbanks fun h => ?_
  · simp only [List.length_tail]
    omega
  · simp [hu h]

end

/-! The whole part. -/

/-- What O59 keeps beside the topology. -/
structure State.inUse (s : State) : Prop where
  stations : ∀ st, (s.station st).fits (s.isConfigured st)
  ports : ∀ p, s.isConfigured p = false → (s.port p).keys = []
  owners : ∀ i p, (s.watch i).owner = some p → s.isConfigured p = true
  proposers : ∀ k q, (s.segment k).proposal = some q → s.isConfigured q.proposer = true

section
variable {s t : State}

theorem inUse_iff : s.readingsHold ∧ s.banksHold ∧ s.unusedHolds ↔
    s.topologyHolds ∧ s.emptyUntilConfigured ∧ s.inUse := by
  constructor
  · rintro ⟨hr, ⟨he, hb⟩, ht, -, hp, hw, hg⟩
    exact ⟨ht, he, fun st => ⟨hr st, fun hc b => hb st b hc, fun hc => (hp st hc).2⟩, fun p hc => (hp p hc).1, hw, hg⟩
  · rintro ⟨ht, he, hst, hp, hw, hg⟩
    exact ⟨fun st => (hst st).1, ⟨he, fun st b hc => (hst st).2.1 hc b⟩, ht, he,
      fun p hc => ⟨hp p hc, (hst p).2.2 hc⟩, hw, hg⟩

/-- A key at a port in use. -/
def below (n : Nat) (q : PortId) (_ : NoticeKey) : Prop := q.val < n

theorem isConfigured_iff {p : PortId} : s.isConfigured p = true ↔ p.val < s.n := by simp [State.isConfigured]

theorem isConfigured_congr (hn : t.n = s.n) (p : PortId) : t.isConfigured p = s.isConfigured p := by
  simp [State.isConfigured, hn]

theorem allows_below (ht : s.topologyHolds) (h : s.inUse) : Allows (below s.n) s := by
  refine ⟨fun j l hl q hq => ?_, fun q j hq => ⟨hq, hq⟩, fun i q hi => isConfigured_iff.1 (h.owners i q hi)⟩
  have hb := line_bounds ht hl
  have : q.val < s.n := by
    obtain rfl | rfl := hq
    · omega
    · rw [downStation_val]
      exact hb.2
  exact ⟨this, this⟩

/-- A change that raises notices at ports in use alone, with stations, counters and proposals in form. -/
theorem State.inUse.kept (h : s.inUse) (hr : Raises (below s.n) s t)
    (hst : ∀ x, (t.station x).fits (s.isConfigured x))
    (hw : ∀ i p, (t.watch i).owner = some p → s.isConfigured p = true)
    (hg : ∀ k q, (t.segment k).proposal = some q → s.isConfigured q.proposer = true) : t.inUse := by
  have hn := isConfigured_congr hr.setUp.n_eq
  refine ⟨fun x => hn x ▸ hst x, fun p hp => ?_, fun i p hi => hn p ▸ hw i p hi, fun k q hq => ?_⟩
  · rw [hn] at hp
    obtain ⟨xs, hx, e⟩ := hr.ports p
    have hnone : xs = [] := by
      refine List.eq_nil_iff_forall_not_mem.2 fun x hm => ?_
      rw [isConfigured_iff.2 (hx x hm)] at hp
      cases hp
    rw [e, hnone]
    exact h.ports p hp
  · rw [hn]
    exact hg k q hq

/-- A change of the engine and the span table. -/
theorem State.inUse.engine (h : s.inUse) (hr : Raises (below s.n) s t) (he : EngineOnly s t) : t.inUse :=
  h.kept hr (fun x => by rw [he.station_eq]; exact h.stations x)
    (fun i p hi => h.owners i p (by rw [← he.owner_eq i]; exact hi))
    (fun k q hq => h.proposers k q (by rw [← he.segment_eq k]; exact hq))

/-- One station replaced by one that fits. -/
theorem State.inUse.setStation (h : s.inUse) {st : StationId} {x : Station} (hx : x.fits (s.isConfigured st)) :
    (s.setStation st x).inUse := by
  refine h.kept (silent_setStation st x) (fun y => ?_) h.owners h.proposers
  by_cases hy : y = st
  · subst hy
    simpa using hx
  · simpa [hy] using h.stations y

/-- One segment replaced by one whose proposer, if any, is at a port in use. -/
theorem State.inUse.setSegment (h : s.inUse) {k : SegId} {g : Segment}
    (hg : ∀ q, g.proposal = some q → s.isConfigured q.proposer = true) : (s.setSegment k g).inUse := by
  refine h.kept (silent_setSegment k g) h.stations h.owners fun i q hq => ?_
  by_cases hi : i = k
  · subst hi
    exact hg q (by simpa using hq)
  · exact h.proposers i q (by simpa [hi] using hq)

/-- One port's link replaced. -/
theorem State.inUse.setPort (h : s.inUse) {p : PortId} {x : Port}
    (hx : (s.port p).keys = [] → x.keys = []) : (s.setPort p x).inUse := by
  refine ⟨h.stations, fun q hq => ?_, h.owners, h.proposers⟩
  by_cases hqp : q = p
  · subst hqp
    simpa using hx (h.ports q hq)
  · simpa [hqp] using h.ports q hq

theorem keys_eq_nil_iff {p : Port} : p.keys = [] ↔ p.urgent = [] ∧ p.routine = [] := by simp [Port.keys]

theorem inUse_changeService (ht : s.topologyHolds) (h : s.inUse) (st : StationId) (v : ServiceState)
    (e : Option LineTime) : (s.changeService st v e).inUse := by
  have he := changeService_engineOnly (s := s) st v e
  refine h.kept (raises_changeService st v e (allows_below ht h) fun _ hp _ => hp) (fun x => ?_)
    (fun i p hi => h.owners i p (by rw [he.owner_eq i] at hi; exact hi))
    (fun k q hq => h.proposers k q (by rw [he.segment_eq k] at hq; exact hq))
  rw [he.station_eq]
  by_cases hx : x = st
  · subst hx
    rw [State.recordService, setStation_station_same]
    exact fits_of_same (h.stations x) rfl rfl rfl
  · rw [State.recordService, setStation_station_ne _ _ _ hx]
    exact h.stations x

/-- A station replaced and the head of its queue converted. -/
theorem inUse_convertHead (ht : s.topologyHolds) (h : s.inUse) {p : PortId} {x : Station}
    (hp : x.queue ≠ [] → p.val < s.n)
    (hx : (x.headConverted (expiryAfter s.lineTime s.tRes)).fits (s.isConfigured p)) :
    ((s.setStation p x).convertHead p).inUse := by
  have he := (convertHead_samplesOnly_headConverted (s.setStation p x) p).engineOnly
  have ha : Allows (below s.n) (s.setStation p x) := (allows_below ht h).of_same rfl (fun _ => rfl) rfl
  refine h.kept ((silent_setStation p x).trans (raises_convertHead p ha (by simpa [below] using hp))) (fun y => ?_)
    (fun i q hi => h.owners i q (by rw [he.owner_eq i] at hi; exact hi))
    (fun k q hq => h.proposers k q (by rw [he.segment_eq k] at hq; exact hq))
  by_cases hy : y = p
  · subst hy
    rw [convertHead_station_same, setStation_station_same]
    exact hx
  · rw [convertHead_station_ne _ hy, setStation_station_ne _ _ _ hy]
    exact h.stations y

theorem inUse_settleHead (h : s.inUse) {st : StationId} {r : Reading} {rest : List Reading} {c : Conversion} {m : Nat}
    (hq : (s.station st).queue = r :: rest) : (s.settleHead st { r with stage := .ready c m } rest).inUse := by
  have hfit := fits_settled (c := c) (m := m) (y := { s.station st with
    queue := { r with stage := .ready c m } :: rest, resolve := none }) (h.stations st) hq rfl rfl rfl
  refine State.inUse.setPort (h.setStation hfit) fun hk => ?_
  obtain ⟨hu, hr⟩ := keys_eq_nil_iff.1 hk
  rw [Port.withNotices_keys, hu, hr]
  rfl

theorem upStation_lt {k : SegId} {n : Nat} (h : k.num < n) : k.upStation.val < n := by
  have : k.upStation.val < k.num := by cases k <;> decide
  omega

theorem downStation_lt {k : SegId} {n : Nat} (h : k.num < n) : k.downStation.val < n := by
  rwa [downStation_val]

theorem otherEnd_lt {p : StationId} {k : SegId} {n : Nat} (h : k.num < n) : (otherEnd p k).val < n := by
  unfold otherEnd
  split
  · exact downStation_lt h
  · exact upStation_lt h

theorem bankOf_valid {w : BankWire} {x : Bank} (h : bankOf w = some x) : x.valid := by
  unfold bankOf at h
  split at h
  · cases h
  · split at h
    · rename_i hw
      simp only [Bool.and_eq_true, decide_eq_true_eq] at hw
      obtain ⟨⟨⟨⟨⟨h1, h2⟩, h3⟩, h4⟩, h5⟩, h6⟩ := hw
      cases h
      exact ⟨h1, h2, h3, h4, by simpa [within] using h5, h6⟩
    · cases h

/-- What a block's answer to a request at a port in use keeps. -/
theorem Answers.inUse {p : PortId} (h : Answers p s t) (hp : p.val < s.n) (ht : s.topologyHolds) (hs : s.inUse) :
    t.inUse := by
  have ha := allows_below ht hs
  have hused : s.isConfigured p = true := isConfigured_iff.2 hp
  have hfits : (s.station p).fits true := by rw [← hused]; exact hs.stations p
  cases h with
  | same => exact hs
  | stationIn hout => exact inUse_changeService ht hs p _ _
  | stationOut hnot => exact inUse_changeService ht hs p _ _
  | readingQueued r hr hlen hq =>
    exact hs.setStation (by rw [hused]; exact fits_queued hfits hlen hq hr rfl rfl rfl)
  | readingAtHead r hr hq =>
    obtain ⟨⟨-, -, -, htimer⟩, hbanks, -⟩ := hfits
    have hres : (s.station p).resolve = none := by simpa [Station.headState, hq] using htimer
    refine inUse_convertHead ht hs (fun _ => hp) (fits_headConverted ?_ ?_ hres (fun _ => hbanks rfl) fun hu => ?_)
    · simpa [hq] using hr
    · simp [hq]
    · rw [hused] at hu
      cases hu
  | resolved r rest c c' m hq hr => exact inUse_settleHead hs hq
  | bankWritten b w x hx => exact hs.setStation (fits_bank (hs.stations p) b (bankOf_valid hx))
  | bankSelected b => exact hs.setStation (fits_of_same (hs.stations p) rfl rfl rfl)
  | spanOpened j l cFill hl hpu hc he hf => exact hs.engine (raises_openSpan j l cFill ha) (engineOnly_openSpan j l cFill)
  | spanClosed j l hl hc => exact hs.engine (raises_closeSpan j ha) (engineOnly_closeSpan j)
  | verdictCleared j l hl =>
    exact hs.engine ((silent_setSpan _ _).trans (raises_announceVerdict j _ (ha.setSpan (.inl (by rfl)))))
      ((engineOnly_setSpan _ _).trans (noticesOnly_announceVerdict _ _ _).engineOnly)
  | proposed k x hk hpu hx =>
    have hg := hs.setSegment (k := k) (g := { s.segment k with proposal := some ⟨p, x, expiryAfter s.lineTime s.tAgree⟩ })
      fun q hq => by cases hq; exact hused
    exact hg.engine (raises_raise _ _ _ (otherEnd_lt hk)) (noticesOnly_raise _ _ _ _).engineOnly
  | applied k q hk hq =>
    have he := applySettings_engineOnly ht hk q.settings
    refine hs.kept (raises_applySettings k q.settings ha (upStation_lt hk) (downStation_lt hk)) (fun x => ?_)
      (fun i y hi => hs.owners i y (by rw [he.owner_eq i] at hi; exact hi)) fun i y hi => ?_
    · rw [he.station_eq]
      exact hs.stations x
    · rw [he.segment_eq] at hi
      by_cases hik : i = k
      · subst hik
        rw [setSegment_segment_same] at hi
        cases hi
      · rw [setSegment_segment_ne _ _ _ hik] at hi
        exact hs.proposers i y hi
  | withdrawn k hk hpu =>
    have hg := hs.setSegment (k := k) (g := { s.segment k with proposal := none }) fun q hq => by cases hq
    exact hg.engine (raises_raise _ _ _ (otherEnd_lt hk)) (noticesOnly_raise _ _ _ _).engineOnly
  | watchOwned i w hw =>
    refine hs.kept (silent_setWatch i w) hs.stations (fun j q hj => ?_) hs.proposers
    by_cases hji : j = i
    · subst hji
      rw [setWatch_watch_same] at hj
      obtain hw | hw := hw
      · rw [hw] at hj
        cases hj
        exact hused
      · rw [hw] at hj
        cases hj
    · exact hs.owners j q (by simpa [hji] using hj)
  | watchesFrozen flag => exact hs.engine (silent_setWatches _) (samplesOnly_freezeOwned s p flag).engineOnly
  | noticeTaken urgent routine hu =>
    refine hs.setPort fun hk => ?_
    obtain ⟨h1, h2⟩ := keys_eq_nil_iff.1 hk
    rw [Port.withNotices_keys]
    obtain ⟨x, hu, hr⟩ | ⟨x, hu, rfl, hr⟩ := hu
    · rw [h1] at hu
      cases hu
    · rw [h2] at hr
      cases hr

theorem inUse_reply {p : PortId} (h : s.inUse) (kind : Byte) (code : Result) (body : ReplyBody) :
    (s.reply p kind code body).inUse := h.setPort id

theorem inUse_setRx {p : PortId} (h : s.inUse) (rx : Receiver) : (s.setRx p rx).inUse := h.setPort id

/-- One port's link replaced, with its notices as they stand. -/
theorem inUse_setLink {p : PortId} {x : Port} (h : s.inUse) (hu : x.urgent = (s.port p).urgent)
    (hr : x.routine = (s.port p).routine) : (s.setPort p x).inUse :=
  h.setPort fun hk => by rwa [Port.keys, hu, hr]

theorem inUse_trippedBy (h : s.inUse) (st : StationId) : (s.trippedBy st).inUse :=
  h.engine (silent_trippedBy st) (engineOnly_trippedBy st)

theorem inUse_reset (pending : List Instr) : State.inUse { State.reset with pending := pending } := by
  refine ⟨fun st => ?_, fun p _ => ?_, fun i p hi => ?_, fun k q hq => ?_⟩
  · rw [reset_station]
    exact ⟨queueHolds_of_empty rfl rfl, fun h => absurd (isConfigured_iff.1 h) (Nat.not_lt_zero _), fun _ => rfl⟩
  · rw [reset_port]
    rfl
  · rw [reset_watch] at hi
    cases hi
  · rw [reset_segment] at hq
    cases hq

theorem imageBanks_valid {img : List Byte} (h : imageAccepted img = true) {st : StationId} (hst : st.val < imageN img)
    (b : BankId) : ((imageBanks img st).get b).valid := by
  have hall := (imageAccepted_iff img).1 h
    (allPorts.all fun st => !decide (st.val < imageN img) || stationBanksOk img st) (by simp [imageChecks])
  have mem : ∀ i : Fin 4, i ∈ allPorts := by decide
  have hbanks : stationBanksOk img st = true := by simpa [hst] using List.all_eq_true.1 hall st (mem st)
  have hsome := List.all_eq_true.1 hbanks b (mem b)
  obtain ⟨x, hx⟩ := Option.isSome_iff_exists.1 hsome
  have hget : (imageBanks img st).get b = (imageBank img st b).getD Bank.zero := by fin_cases b <;> rfl
  rw [hget, hx]
  exact bankOf_valid hx

/-- Before an image is accepted no port is in use, so nothing of a port, a counter or a proposal is either (R169). -/
theorem inUse_accept {img : List Byte} (ha : imageAccepted img = true) (hn : s.n = 0) (h : s.inUse) :
    (s.accept img).inUse := by
  have hnone : ∀ p, s.isConfigured p = false := fun p => by simp [State.isConfigured, hn]
  obtain ⟨-, hN, -, -, -, -, -, -, -, -, -, hw, -⟩ := accept_same s img
  refine ⟨fun st => ?_, fun p _ => ?_, fun i p hi => ?_, fun k q hq => ?_⟩
  · have hold := h.stations st
    rw [hnone] at hold
    obtain ⟨hq, -, hu⟩ := hold
    rw [accept_station, loaded_station]
    split
    · rename_i hst
      exact ⟨hq, fun _ b => imageBanks_valid ha hst b, fun _ => hu rfl⟩
    · rename_i hst
      refine ⟨hq, fun hc => ?_, fun _ => hu rfl⟩
      rw [isConfigured_iff, hN] at hc
      exact absurd hc hst
  · rw [accept_port]
    exact h.ports p (hnone p)
  · rw [State.watch, hw] at hi
    have := h.owners i p hi
    rw [hnone] at this
    cases this
  · have hp : (s.segment k).proposal = some q := by
      rw [accept_segment, loaded_segment] at hq
      split at hq <;> exact hq
    have := h.proposers k q hp
    rw [hnone] at this
    cases this

theorem inUse_refuseImage (h : s.inUse) : s.refuseImage.inUse := by
  have hrest : s.refuseImage.n = s.n ∧ s.refuseImage.stations = s.stations ∧ s.refuseImage.watches = s.watches ∧
      s.refuseImage.segments = s.segments := by
    rw [refuseImage_rest]
    exact ⟨rfl, rfl, rfl, rfl⟩
  obtain ⟨hn, hst, hw, hg⟩ := hrest
  have hc := isConfigured_congr hn
  refine ⟨fun st => ?_, fun p hp => ?_, fun i p hi => ?_, fun k q hq => ?_⟩
  · rw [hc, State.station, hst]
    exact h.stations st
  · rw [refuseImage_port]
    exact h.ports p (hc p ▸ hp)
  · rw [State.watch, hw] at hi
    rw [hc]
    exact h.owners i p hi
  · rw [State.segment, hg] at hq
    rw [hc]
    exact h.proposers k q hq

theorem inUse_restarted (h : s.inUse) (p : PortId) :
    ((s.setPort p (s.port p).restarted).setStation p (s.station p).queueDropped).inUse :=
  State.inUse.setStation (h.setPort fun _ => rfl) (fits_emptied (h.stations p) rfl rfl rfl)

theorem inUse_applyGrant (ht : s.topologyHolds) (h : s.inUse) {p : PortId} {r : Reading} {c : Conversion} {m : Nat}
    (hr : (s.station p).readyHead = some (r, c, m)) : (s.applyGrant p r c m).inUse := by
  have h0 : State.inUse { s with lastGranted := some p } := ⟨h.stations, h.ports, h.owners, h.proposers⟩
  have ht0 : State.topologyHolds { s with lastGranted := some p } := ht
  have ha0 := allows_below ht0 h0
  have h1 := h0.engine (raises_outflowSide p c m ha0) (engineOnly_outflowSide p c m)
  have ht1 := (lineKept_outflowSide (s := { s with lastGranted := some p }) p c m).topologyHolds ht0
  have h2 := h1.engine (raises_inflowSide p r.bank c m (allows_below ht1 h1)) (engineOnly_inflowSide p r.bank c m)
  have ht2 := (lineKept_inflowSide p r.bank c m).topologyHolds ht1
  have hst := (applyGrant_engineOnly (s := s) p r c m).station_eq p
  rw [State.applyGrant]
  generalize State.inflowSide (State.outflowSide { s with lastGranted := some p } p c m) p r.bank c m = u at h2 ht2 hst
  have hru : (u.station p).readyHead = some (r, c, m) := by rw [hst]; exact hr
  refine inUse_convertHead ht2 h2 (fun hq => ?_) (fits_headRemoved (h2.stations p) hru)
  by_contra hn
  have := (h2.stations p).2.2 (by simpa [State.isConfigured] using hn)
  simp [this] at hq

/-- Every change that a command can make keeps the part in use in form. -/
theorem Steps.inUse (h : Steps s t) (ht : s.topologyHolds) (he : s.emptyUntilConfigured) (hs : s.inUse) : t.inUse := by
  have ha := allows_below ht hs
  cases h with
  | same => exact hs
  | reset => exact inUse_reset _
  | accept image hc ha => exact inUse_accept ha (he (by simp [hc])) hs
  | refuseImage hc => exact inUse_refuseImage hs
  | tick => exact ⟨hs.stations, hs.ports, hs.owners, hs.proposers⟩
  | silence st hin => exact inUse_changeService ht hs st _ _
  | resolve st r rest c c' m hq hr => exact inUse_settleHead hs hq
  | agreement k q hq =>
    have hg := hs.setSegment (k := k) (g := { s.segment k with proposal := none }) fun q hq => by cases hq
    exact hg.engine (raises_raise _ _ _ (isConfigured_iff.1 (hs.proposers k q hq))) (noticesOnly_raise _ _ _ _).engineOnly
  | holdEnds j => exact hs.engine (silent_setSpan _ _) (engineOnly_setSpan _ _)
  | tripFalls p hc =>
    have h1 : (s.setPort p { s.port p with trip := .low }).inUse := inUse_setLink hs rfl rfl
    exact inUse_trippedBy h1 p
  | tripReleased p => exact inUse_setLink hs rfl rfl
  | received p rx => exact inUse_setRx hs rx
  | replied p kind code hb => exact inUse_reply (inUse_setRx hs .hunt) _ _ _
  | answered p r u kind result body hb hp hu =>
    subst hu
    refine inUse_reply ?_ _ _ _
    have h1 := inUse_setRx (p := p) hs .hunt
    obtain rfl | hp := hp
    · exact h1
    · exact (answerTo_answers p r _).inUse (isConfigured_iff.1 hp) ((lineKept_setRx p .hunt).topologyHolds ht) h1
  | restarted p => exact inUse_restarted hs p
  | replySent p => exact inUse_setLink hs rfl rfl
  | granted p r c m hr => exact inUse_applyGrant ht hs hr

end

end Sys2Proof.Machine

open Sys2Proof Sys2Proof.Machine

/-- Settles O59: stations change by service, by a reading queued, converted, settled or removed, and by valid banks; notices and
readings reach ports in use alone, because the ends of every present span are below N. -/
theorem stepKeepsStations : Obligations.StepKeepsStations := by
  unfold Obligations.StepKeepsStations
  intro s t hs hstep
  refine inUse_iff.2 (step_keeps_of_steps (Inv := fun s => s.topologyHolds ∧ s.emptyUntilConfigured ∧ s.inUse)
    (fun _ _ ⟨ht, he, hu⟩ => ⟨ht, he, hu.stations, hu.ports, hu.owners, hu.proposers⟩)
    (fun _ _ ⟨ht, he, hu⟩ h => ⟨h.topologyHolds ht, h.emptyUntilConfigured ht he, h.inUse ht he hu⟩)
    (inUse_iff.1 hs) hstep)

end

section
/-! Merges and splits exactly: the lines they derive, the records, the queues and the free list they leave (R10, R19 to R22). -/

namespace Sys2Proof.Machine

/-! Two topologies that differ at one interior station: `a` with it as a span end, `b` without. -/

section
variable {a b : State} {i j k : SegId}

/-- A span end more or less changes the upstream end of the one span that starts there. -/
theorem upstreamEnd_of_other (hother : ∀ i, i ≠ k → a.isSpanEnd i = b.isSpanEnd i) (hj : a.isSpanEnd j = true)
    (hu : (a.upstreamEnd j).val = k.num) (ha : a.isSpanEnd k = true) (hb : b.isSpanEnd k = false) (hi : a.isSpanEnd i = true)
    (hij : i ≠ j) (hik : i ≠ k) : a.upstreamEnd i = b.upstreamEnd i := by
  have h1 := hother .one
  have h2 := hother .two
  cases k with
  | three => cases i <;> simp_all [State.upstreamEnd]
  | two =>
    cases i with
    | one => rfl
    | two => exact absurd rfl hik
    | three =>
      cases j with
      | one => simp [State.upstreamEnd, SegId.num] at hu
      | two => simp only [State.upstreamEnd, SegId.num] at hu; split at hu <;> simp at hu
      | three => exact absurd rfl hij
  | one =>
    cases i with
    | one => rfl
    | two =>
      cases j with
      | one => simp [State.upstreamEnd, SegId.num] at hu
      | two => exact absurd rfl hij
      | three => simp [State.upstreamEnd, SegId.num, hi] at hu
    | three =>
      cases j with
      | one => simp [State.upstreamEnd, SegId.num] at hu
      | two => simp [State.upstreamEnd, hj, ← h2 (by decide)]
      | three => exact absurd rfl hij

/-- An upstream end beyond the head is a span end (R10). -/
theorem isSpanEnd_of_upstreamEnd (h : i.num = (a.upstreamEnd j).val) : a.isSpanEnd i = true := by
  cases j with
  | one => cases i <;> simp [State.upstreamEnd, SegId.num] at h
  | two =>
    simp only [State.upstreamEnd] at h
    split at h
    · cases i with
      | one => assumption
      | two | three => simp [SegId.num] at h
    · cases i <;> simp [SegId.num] at h
  | three =>
    simp only [State.upstreamEnd] at h
    split at h
    · cases i with
      | two => assumption
      | one | three => simp [SegId.num] at h
    · split at h
      · cases i with
        | one => assumption
        | two | three => simp [SegId.num] at h
      · cases i <;> simp [SegId.num] at h

/-- Without the span end, the span that started there starts where the one that ended there started. -/
theorem upstreamEnd_of_joined (hother : ∀ i, i ≠ k → a.isSpanEnd i = b.isSpanEnd i) (hu : (a.upstreamEnd j).val = k.num)
    (hb : b.isSpanEnd k = false) : b.upstreamEnd j = a.upstreamEnd k := by
  have h1 := hother .one
  have h2 := hother .two
  have hlt : k.num < j.num := by
    have := derivedLine_upstream_lt a j
    simp only [State.derivedLine] at this
    omega
  cases k with
  | three => cases j <;> simp [SegId.num] at hlt
  | two =>
    cases j with
    | one | two => simp [SegId.num] at hlt
    | three => simp [State.upstreamEnd, hb, h1 (by decide)]
  | one =>
    cases j with
    | one => simp [SegId.num] at hlt
    | two => simp [State.upstreamEnd, hb]
    | three =>
      have h2' : a.isSpanEnd .two = false := by
        by_contra h
        rw [Bool.not_eq_false] at h
        simp [State.upstreamEnd, SegId.num, h] at hu
      simp [State.upstreamEnd, hb, ← h2 (by decide), h2']

end

section
variable {s t : State}

/-- A state with one interior station's service changed, as far as the line is concerned. -/
structure ServiceMoved (s t : State) (st : StationId) : Prop where
  n : t.n = s.n
  segments : ∀ k, t.segment k = s.segment k
  service : ∀ x, x ≠ st → t.inService x = s.inService x
  moved : t.inService st = !s.inService st

theorem ServiceMoved.isSpanEnd_ne {st : StationId} {k i : SegId} (h : ServiceMoved s t st)
    (hk : k.downStation = st) (hi : i ≠ k) : t.isSpanEnd i = s.isSpanEnd i := by
  have hd : i.downStation ≠ st := by
    rintro rfl
    exact hi (SegId.eq_of_num_eq (by rw [← downStation_val, ← downStation_val, hk]))
  simp only [State.isSpanEnd, h.n, h.service _ hd]

theorem isSpanEnd_interior {st : StationId} {k : SegId} (hk : k.downStation = st) (hn : st.val + 1 < s.n) :
    s.isSpanEnd k = s.inService st := by
  have hkn : k.num = st.val := by rw [← downStation_val, hk]
  simp only [State.isSpanEnd, hk, hkn]
  simp [hn, hn.ne]

/-- What a span derives, from where its upstream end is. -/
theorem lineOf_of_upstreamEnd (hg : ∀ k, t.segment k = s.segment k) {i : SegId}
    (he : t.isSpanEnd i = s.isSpanEnd i) (hu : s.isSpanEnd i = true → t.upstreamEnd i = s.upstreamEnd i) :
    t.lineOf i = s.lineOf i := by
  by_cases h : s.isSpanEnd i = true
  · simp only [State.lineOf, he, State.derivedLine, State.thresholdsOver, State.sumOver, hu h, hg]
  · simp [State.lineOf, he, h]

/-- An interior station leaves IN_SERVICE: the span that ended there is absent, the one that started there reaches up to the
other's upstream end, and every other span derives what it did (R10). -/
theorem lineOf_of_left (ht : s.topologyHolds) {st : StationId} {k j : SegId} {lk lj : SpanLine} (h : ServiceMoved s t st)
    (hin : s.inService st = true) (hn : st.val + 1 < s.n) (hk : k.downStation = st) (hlk : (s.span k).line = some lk)
    (hlj : (s.span j).line = some lj) (hu : lj.upstream = st) :
    t.lineOf k = none ∧ (∃ l, t.lineOf j = some l ∧ l.upstream = lk.upstream) ∧
      ∀ i, i ≠ j → i ≠ k → t.lineOf i = s.lineOf i := by
  have hother : ∀ i, i ≠ k → s.isSpanEnd i = t.isSpanEnd i := fun i hi => (h.isSpanEnd_ne hk hi).symm
  obtain ⟨hje, hjl⟩ := line_of_topology ht hlj
  obtain ⟨hke, hkl⟩ := line_of_topology ht hlk
  have hkt : t.isSpanEnd k = false := by rw [isSpanEnd_interior hk (h.n ▸ hn), h.moved, hin]; rfl
  have hju : (s.upstreamEnd j).val = k.num := by
    have : s.upstreamEnd j = st := by rw [← hu, hjl]; rfl
    rw [this, ← hk, downStation_val]
  have hjk : j ≠ k := by
    rintro rfl
    have := derivedLine_upstream_lt s j
    simp only [State.derivedLine] at this
    omega
  refine ⟨by simp [State.lineOf, hkt], ⟨t.derivedLine j, ?_, ?_⟩, fun i hij hik => ?_⟩
  · rw [State.lineOf, ← hother j hjk, if_pos hje]
  · rw [hkl]
    exact upstreamEnd_of_joined hother hju hkt
  · exact lineOf_of_upstreamEnd h.segments (hother i hik).symm fun hi =>
      (upstreamEnd_of_other hother hje hju hke hkt hi hij hik).symm

/-- An interior station returns: the span that it lay in starts there, a span from that one's upstream end ends there, and
every other span derives what it did (R10). -/
theorem lineOf_of_returned (ht : s.topologyHolds) {st : StationId} {k j : SegId} {l : SpanLine} (h : ServiceMoved s t st)
    (hout : s.inService st = false) (hn : st.val + 1 < s.n) (hk : k.downStation = st) (hl : (s.span j).line = some l)
    (hu : l.upstream.val < k.num) (hkj : k.num < j.num) :
    (∃ lk, t.lineOf k = some lk ∧ lk.upstream = l.upstream) ∧ (∃ lj, t.lineOf j = some lj ∧ lj.upstream = st) ∧
      ∀ i, i ≠ j → i ≠ k → t.lineOf i = s.lineOf i := by
  have hother : ∀ i, i ≠ k → t.isSpanEnd i = s.isSpanEnd i := fun i hi => h.isSpanEnd_ne hk hi
  obtain ⟨hje, hjl⟩ := line_of_topology ht hl
  have hks : s.isSpanEnd k = false := by rw [isSpanEnd_interior hk hn, hout]
  have hkt : t.isSpanEnd k = true := by rw [isSpanEnd_interior hk (h.n ▸ hn), h.moved, hout]; rfl
  have hjk : j ≠ k := by
    rintro rfl
    exact lt_irrefl _ hkj
  have hjt : t.isSpanEnd j = true := by rw [hother j hjk, hje]
  have hst : st.val = k.num := by rw [← hk, downStation_val]
  have hju : (t.upstreamEnd j).val = k.num := by
    refine le_antisymm ?_ (num_le_upstreamEnd hkt hkj)
    by_contra hlt
    have hup : ∃ m : SegId, m.num = (t.upstreamEnd j).val :=
      exists_seg_num (by omega) (by have := (t.upstreamEnd j).isLt; omega)
    obtain ⟨m, hm⟩ := hup
    have hmj : m.num < j.num := by
      have := derivedLine_upstream_lt t j
      simp only [State.derivedLine] at this
      omega
    have hme : t.isSpanEnd m = true := isSpanEnd_of_upstreamEnd hm
    have hmk : m ≠ k := by
      rintro rfl
      omega
    rw [hother m hmk] at hme
    have := num_le_upstreamEnd hme hmj
    have hs : (s.upstreamEnd j).val = l.upstream.val := by rw [hjl]; rfl
    omega
  have hother' : ∀ i, i ≠ k → t.isSpanEnd i = s.isSpanEnd i := hother
  refine ⟨⟨t.derivedLine k, by rw [State.lineOf, if_pos hkt], ?_⟩, ⟨t.derivedLine j, by rw [State.lineOf, if_pos hjt], ?_⟩,
    fun i hij hik => ?_⟩
  · rw [hjl]
    exact (upstreamEnd_of_joined hother' hju hks).symm
  · exact Fin.ext (hju.trans hst.symm)
  · exact lineOf_of_upstreamEnd h.segments (hother i hik) fun hi =>
      upstreamEnd_of_other hother' hjt hju hkt hks (by rw [hother i hik, hi]) hij hik

/-- A recorded and told change of service at an interior station. -/
theorem serviceTold_moved (s : State) (st : StationId) (v : ServiceState) (e : Option LineTime)
    (h : (v == .inService) = !s.inService st) : ServiceMoved s (s.serviceTold st v e) st := by
  obtain ⟨-, hn, -, -, -, -, hg, -⟩ := serviceTold_same s st v e
  refine ⟨hn, fun k => by rw [State.segment, hg]; rfl, fun x hx => ?_, ?_⟩
  · rw [serviceTold_inService, if_neg hx]
  · rw [serviceTold_inService, if_pos rfl, h]

end

/-! The records after a merge or a split. -/

/-- OPEN if both ends of a line are IN_SERVICE, else SUSPENDED; CLOSED without a line (R16). -/
def State.stateOn (s : State) (j : SpanId) : Option SpanLine → SpanState
  | none => .closed
  | some l => if s.bothEndsIn j l then .opened else .suspended

/-- A record with an epoch started, its state set, and its verdict derived (R20, R22). -/
def Span.restarted (sp : Span) (now : LineTime) (v : SpanState) : Span := Span.derive { sp.epoch now with state := v }

section
variable {s t : State}

theorem stateByEnds_eq (s : State) (j : SpanId) : s.stateByEnds j = s.stateOn j (s.span j).line := by
  unfold State.stateByEnds State.stateOn
  split <;> simp [*]

theorem stateOn_congr (h : ∀ st, t.inService st = s.inService st) (j : SpanId) (l : Option SpanLine) :
    t.stateOn j l = s.stateOn j l := by
  cases l <;> simp [State.stateOn, State.bothEndsIn, h]

theorem restartSpan_eq (s : State) (j : SpanId) :
    s.restartSpan j = s.setSpan j ((s.span j).restarted s.lineTime (s.stateOn j (s.span j).line)) := by
  rw [State.restartSpan, stateByEnds_eq]
  rfl

theorem NoticesOnly.span_eq (h : NoticesOnly s t) (j : SpanId) : t.span j = s.span j := by
  rw [h.rest]
  rfl

theorem NoticesOnly.queue_eq (h : NoticesOnly s t) (j : SpanId) : t.queue j = s.queue j := by
  rw [h.rest]
  rfl

theorem NoticesOnly.free_eq (h : NoticesOnly s t) : t.free = s.free := by
  rw [h.rest]

theorem NoticesOnly.watch_eq (h : NoticesOnly s t) (i : WatchId) : t.watch i = s.watch i := by
  rw [h.rest]
  rfl

theorem StoreOnly.span_eq (h : StoreOnly s t) (j : SpanId) : t.span j = s.span j := by
  rw [h.rest]
  rfl

theorem SamplesOnly.span_eq (h : SamplesOnly s t) (j : SpanId) : t.span j = s.span j := h.storeOnly.span_eq j

theorem SamplesOnly.queue_eq (h : SamplesOnly s t) (j : SpanId) : t.queue j = s.queue j := by
  rw [h.rest]
  rfl

theorem SamplesOnly.free_eq (h : SamplesOnly s t) : t.free = s.free := by
  rw [h.rest]

/-- What stands as every span is derived anew, of the store and the counters. -/
theorem rederiveAll_store (s : State) : s.rederiveAll.free = s.free ∧ s.rederiveAll.queues = s.queues ∧
    s.rederiveAll.watches = s.watches ∧ s.rederiveAll.lineTime = s.lineTime := by
  rw [rederiveAll_rest]
  exact ⟨rfl, rfl, rfl, rfl⟩

/-- The records of two spans replaced, and every span derived anew. -/
theorem replaced_rederiveAll_span {k j : SpanId} {x y : Span} (i : SpanId) :
    (((s.setSpan k x).setSpan j y).rederiveAll).span i =
      { (if i = j then y else if i = k then x else s.span i) with line := s.lineOf i } := by
  rw [rederiveAll_span, lineOf_setSpan, lineOf_setSpan]
  by_cases hj : i = j
  · subst hj
    rw [setSpan_span_same, if_pos rfl]
  · rw [setSpan_span_ne _ _ _ hj, if_neg hj]
    by_cases hk : i = k
    · subst hk
      rw [setSpan_span_same, if_pos rfl]
    · rw [setSpan_span_ne _ _ _ hk, if_neg hk]

theorem divert_span (up down i : SpanId) : (s.divert up down).span i = s.span i := rfl

theorem divert_lineOf (up down i : SpanId) : (s.divert up down).lineOf i = s.lineOf i :=
  (storeOnly_divert s up down).lineKept.lineOf i

/-- The merged record of a merge of two parts neither CLOSED (R20). -/
theorem mergeOpen_span (k j i : SpanId) : (s.mergeOpen k j).span i =
    if i = j then Span.restarted { (s.span j).mergedWith (s.span k) s.lineTime with line := s.lineOf j } s.lineTime
      (s.stateOn j (s.lineOf j))
    else { (if i = k then Span.blank else s.span i) with line := s.lineOf i } := by
  rw [(mergeOpen_noticesOnly s k j).span_eq, restartSpan_eq]
  have hspan := replaced_rederiveAll_span (s := s.divert k j) (k := k) (j := j) (x := Span.blank)
    (y := (s.span j).mergedWith (s.span k) s.lineTime)
  obtain ⟨-, -, -, hlt⟩ := rederiveAll_store
    (((s.divert k j).setSpan k Span.blank).setSpan j ((s.span j).mergedWith (s.span k) s.lineTime))
  obtain ⟨-, -, hin, -⟩ := rederiveAll_same
    (s := ((s.divert k j).setSpan k Span.blank).setSpan j ((s.span j).mergedWith (s.span k) s.lineTime))
  generalize ((((s.divert k j).setSpan k Span.blank).setSpan j ((s.span j).mergedWith (s.span k) s.lineTime)).rederiveAll)
    = u at hspan hlt hin
  simp only [divert_lineOf, divert_span] at hspan
  have hst : ∀ l, u.stateOn j l = s.stateOn j l := stateOn_congr (fun st => hin st) j
  by_cases hi : i = j
  · subst hi
    rw [if_pos rfl, setSpan_span_same, hspan, if_pos rfl, hst, show u.lineTime = s.lineTime from hlt]
  · rw [if_neg hi, setSpan_span_ne _ _ _ hi, hspan, if_neg hi]

theorem mergeOpen_store {k j : SpanId} (h : k ≠ j) : (s.mergeOpen k j).queue j = s.queue j ++ s.queue k ∧
    (s.mergeOpen k j).queue k = [] ∧ (∀ i, i ≠ j → i ≠ k → (s.mergeOpen k j).queue i = s.queue i) ∧
    (s.mergeOpen k j).free = s.free ∧ (s.mergeOpen k j).watches = s.watches := by
  have hn := mergeOpen_noticesOnly s k j
  obtain ⟨hq, hk, hf⟩ := divert_queues s k j h
  have ho : ∀ i, i ≠ j → i ≠ k → (s.divert k j).queue i = s.queue i := fun i hj hk => by simp [State.divert, hj, hk]
  have hw : (s.divert k j).watches = s.watches := rfl
  generalize s.divert k j = d at hn hq hk hf ho hw
  obtain ⟨h1, h2, h3, -⟩ := rederiveAll_store
    ((d.setSpan k Span.blank).setSpan j ((s.span j).mergedWith (s.span k) s.lineTime))
  generalize ((d.setSpan k Span.blank).setSpan j ((s.span j).mergedWith (s.span k) s.lineTime)).rederiveAll = u
    at hn h1 h2 h3
  have hqs : ∀ i, (s.mergeOpen k j).queue i = d.queue i := fun i => by
    rw [hn.queue_eq]
    exact congrArg (fun x => Trio.get x i) h2
  refine ⟨by rw [hqs, hq], by rw [hqs, hk], fun i hj hk => by rw [hqs, ho i hj hk], ?_, ?_⟩
  · rw [hn.free_eq]
    exact h1.trans hf
  · rw [hn.rest]
    exact h3.trans hw

end

end Sys2Proof.Machine

end

section
/-! What the watch counters and the store's operations depend on: the counters on the counters alone, the store on the store
alone; and closed merges and splits exactly (R19, R21, R22, R57 to R60, R154). -/

namespace Sys2Proof.Machine

section
variable {s t : State}

/-! Samples move the counters by the counters alone. -/

theorem onOverflow_watches (s : State) (i : WatchId) (w : Watch) : (s.onOverflow i w).watches =
    match w.owner with
    | none => s.watches
    | some p => if w.freeze then s.watches.map (Watch.freezeIf p true) else s.watches := by
  unfold State.onOverflow
  cases w.owner with
  | none => rfl
  | some p =>
    have hn : (if w.notify then s.raise p (.watch i w.value) false else s).watches = s.watches := by
      split <;> rfl
    simp only
    split
    · rw [State.freezeOwned, setWatches_watches, hn]
    · exact hn

theorem offerTo_watches_congr (h : t.watches = s.watches) (x : Sample) (i : WatchId) :
    (t.offerTo x i).watches = (s.offerTo x i).watches := by
  have hw : t.watch i = s.watch i := by rw [State.watch, h]; rfl
  have hs : ∀ w, (t.setWatch i w).watches = (s.setWatch i w).watches := fun w => by simp [State.setWatch, h]
  unfold State.offerTo
  simp only [hw]
  split
  · split
    · rw [onOverflow_watches, onOverflow_watches, hs]
    · exact hs _
  · exact h

theorem foldl_watches_congr {α : Type} {f : State → α → State}
    (hf : ∀ (u v : State) (a : α), v.watches = u.watches → (f v a).watches = (f u a).watches) (xs : List α)
    (h : t.watches = s.watches) : (xs.foldl f t).watches = (xs.foldl f s).watches := by
  induction xs generalizing s t with
  | nil => exact h
  | cons a xs ih => exact ih (hf s t a h)

theorem offer_watches_congr (h : t.watches = s.watches) (x : Sample) : (t.offer x).watches = (s.offer x).watches :=
  foldl_watches_congr (fun _ _ i hw => offerTo_watches_congr hw x i) _ h

theorem offerAll_watches_congr (h : t.watches = s.watches) (xs : List Sample) :
    (t.offerAll xs).watches = (s.offerAll xs).watches :=
  foldl_watches_congr (fun _ _ x hw => offer_watches_congr hw x) _ h

/-- The counters of a state are those of another after a run of samples. -/
structure OfferedTo (s t : State) (xs : List Sample) : Prop where
  watches : t.watches = (s.offerAll xs).watches

theorem OfferedTo.offered {xs : List Sample} (h : OfferedTo s t xs) : s.offered t xs := fun i => by
  rw [State.watch, h.watches]
  rfl

theorem OfferedTo.of_watches (h : t.watches = s.watches) : OfferedTo s t [] := ⟨h⟩

theorem OfferedTo.trans {u : State} {xs ys : List Sample} (h : OfferedTo s t xs) (k : OfferedTo t u ys) :
    OfferedTo s u (xs ++ ys) := by
  have hf : s.offerAll (xs ++ ys) = (s.offerAll xs).offerAll ys := List.foldl_append
  constructor
  rw [hf, k.watches, offerAll_watches_congr h.watches]

theorem offeredTo_offerAll (s : State) (xs : List Sample) : OfferedTo s (s.offerAll xs) xs := ⟨rfl⟩

theorem offeredTo_offer (s : State) (x : Sample) : OfferedTo s (s.offer x) [x] := offeredTo_offerAll s [x]

theorem NoticesOnly.offeredTo (h : NoticesOnly s t) : OfferedTo s t [] := .of_watches (by rw [h.rest])

/-! The store's operations depend on the store. -/

theorem queue_congr (hq : t.queues = s.queues) (j : SpanId) : t.queue j = s.queue j := by
  rw [State.queue, hq]
  rfl

theorem fullest_congr (hq : t.queues = s.queues) : t.fullest = s.fullest := by
  unfold State.fullest
  rw [queue_congr hq, queue_congr hq, queue_congr hq]

theorem reclaim_of_two {a b : Parcel} {ps : List Parcel} (h : s.queue s.fullest = a :: b :: ps) : s.reclaim =
    ((s.setQueue s.fullest (a.join b :: ps)).setFree (s.free ++ [b.index])).offer
      ⟨.reclaims, 1, some s.fullest, none, none⟩ := by
  unfold State.reclaim
  rw [h]

theorem reclaim_of_fewer (h : (s.queue s.fullest).length < 2) : s.reclaim = s := by
  unfold State.reclaim
  split
  · rename_i hq
    simp [hq] at h
  · rfl

/-- A queue of two parcels or more, or of fewer. -/
theorem two_or_fewer (ps : List Parcel) : (∃ a b rest, ps = a :: b :: rest) ∨ ps.length < 2 := by
  match ps with
  | [] => exact .inr (by simp)
  | [_] => exact .inr (by simp)
  | a :: b :: rest => exact .inl ⟨a, b, rest, rfl⟩

theorem reclaim_congr (hf : t.free = s.free) (hq : t.queues = s.queues) :
    t.reclaim.free = s.reclaim.free ∧ t.reclaim.queues = s.reclaim.queues := by
  have hfull := fullest_congr hq
  have hqueue := queue_congr hq s.fullest
  obtain ⟨a, b, rest, h⟩ | h := two_or_fewer (s.queue s.fullest)
  · have ht : t.queue t.fullest = a :: b :: rest := by rw [hfull, hqueue, h]
    rw [reclaim_of_two h, reclaim_of_two ht, (samplesOnly_offer _ _).free_eq, (samplesOnly_offer _ _).free_eq]
    obtain ⟨-, -, -, -, -, h1, -⟩ := (samplesOnly_offer ((t.setQueue t.fullest (a.join b :: rest)).setFree
      (t.free ++ [b.index])) ⟨.reclaims, 1, some t.fullest, none, none⟩).same
    obtain ⟨-, -, -, -, -, h2, -⟩ := (samplesOnly_offer ((s.setQueue s.fullest (a.join b :: rest)).setFree
      (s.free ++ [b.index])) ⟨.reclaims, 1, some s.fullest, none, none⟩).same
    rw [h1, h2]
    exact ⟨by simp [hf], by simp [State.setQueue, hq, hfull]⟩
  · rw [reclaim_of_fewer h, reclaim_of_fewer (by rw [hfull, hqueue]; exact h)]
    exact ⟨hf, hq⟩

theorem takeFree_congr (hf : t.free = s.free) (hq : t.queues = s.queues) :
    t.takeFree.1 = s.takeFree.1 ∧ t.takeFree.2.free = s.takeFree.2.free ∧
      t.takeFree.2.queues = s.takeFree.2.queues := by
  unfold State.takeFree
  rw [hf]
  split
  · exact ⟨rfl, by simp [hf], hq⟩
  · exact ⟨rfl, rfl, hq⟩

/-- An allocation is a matter of the free list and the queues (R57). -/
theorem allocate_congr (hf : t.free = s.free) (hq : t.queues = s.queues) :
    t.allocate.1 = s.allocate.1 ∧ t.allocate.2.free = s.allocate.2.free ∧
      t.allocate.2.queues = s.allocate.2.queues := by
  unfold State.allocate
  rw [hf]
  split
  · obtain ⟨h1, h2⟩ := reclaim_congr hf hq
    exact takeFree_congr h1 h2
  · exact takeFree_congr hf hq

theorem takeFree_watches (s : State) : s.takeFree.2.watches = s.watches := by
  unfold State.takeFree
  split <;> rfl

/-- An allocation offers the sample of the reclaim that it makes (R60). -/
theorem offeredTo_allocate (s : State) : OfferedTo s s.allocate.2 s.reclaimOffers := by
  unfold State.allocate State.reclaimOffers
  by_cases hf : s.free = []
  · rw [if_pos (by simp [hf])]
    have ht : OfferedTo s.reclaim s.reclaim.takeFree.2 [] := .of_watches (takeFree_watches _)
    obtain ⟨a, b, rest, h⟩ | h := two_or_fewer (s.queue s.fullest)
    · rw [if_pos ⟨hf, by simp [h]⟩]
      have hr : OfferedTo s s.reclaim [⟨.reclaims, 1, some s.fullest, none, none⟩] := by
        rw [reclaim_of_two h]
        have h0 : OfferedTo s ((s.setQueue s.fullest (a.join b :: rest)).setFree (s.free ++ [b.index])) [] := ⟨rfl⟩
        exact h0.trans (offeredTo_offer _ _)
      exact hr.trans ht
    · rw [if_neg (by omega)]
      rw [reclaim_of_fewer h] at ht ⊢
      exact ht
  · rw [if_neg (by simpa using hf), if_neg (by simp [hf])]
    exact .of_watches (takeFree_watches s)

/-- Split-at-volume is a matter of the free list and the queues (R70 to R72). -/
theorem splitQueue_congr (hf : t.free = s.free) (hq : t.queues = s.queues) (k j : SpanId) (r : Nat) :
    (t.splitQueue k j r).free = (s.splitQueue k j r).free ∧
      (t.splitQueue k j r).queues = (s.splitQueue k j r).queues := by
  obtain ⟨h1, h2, h3⟩ := allocate_congr hf hq
  unfold State.splitQueue
  rw [queue_congr hq]
  split
  · exact ⟨hf, by simp [State.setQueue, hq]⟩
  · simp only [queue_congr h3, h1]
    split
    · exact ⟨h2, by simp [State.setQueue, h3]⟩
    · exact ⟨by simp [h2], by simp [State.setQueue, State.setFree, h3]⟩

/-- Split-at-volume offers the sample of the reclaim that its allocation makes, where a parcel straddles the cut (R72). -/
theorem offeredTo_splitQueue (s : State) (k j : SpanId) (r : Nat) : OfferedTo s (s.splitQueue k j r)
    (if (cutWalk r (s.queue j)).2.1 = none then [] else s.reclaimOffers) := by
  unfold State.splitQueue
  split
  · rename_i h
    rw [if_pos (by simp [h])]
    exact .of_watches rfl
  · rename_i h
    rw [if_neg (by simp [h])]
    have ha := offeredTo_allocate s
    simp only
    split
    · exact ⟨ha.watches⟩
    · exact ⟨ha.watches⟩

/-! Closed merges and splits. -/

theorem releaseUnless_store {j : SpanId} (h : (t.span j).state = .closed → s.queue j = []) :
    (if (t.span j).state = .closed then s else s.release j).queue j = [] ∧
      (if (t.span j).state = .closed then s else s.release j).free = s.free ++ indicesOf (s.queue j) ∧
      (if (t.span j).state = .closed then s else s.release j).watches = s.watches ∧
      ∀ k, k ≠ j → (if (t.span j).state = .closed then s else s.release j).queue k = s.queue k := by
  split
  · rename_i hc
    exact ⟨h hc, by simp [h hc, indicesOf], rfl, fun _ _ => rfl⟩
  · obtain ⟨h1, h2, h3⟩ := release_store s j
    exact ⟨h1, h2, rfl, h3⟩

theorem mergeClosed_span (k j i : SpanId) : (s.mergeClosed k j).span i =
    { (if i = j then (s.span j).closedOf else if i = k then Span.blank else s.span i) with line := s.lineOf i } := by
  have hs := (storeOnly_releaseUnless s k ((s.span k).state = .closed)).trans
    (storeOnly_releaseUnless _ j ((s.span j).state = .closed))
  have hm := mergeClosed_noticesOnly s k j _ _ rfl rfl
  generalize (if (s.span j).state = .closed then (if (s.span k).state = .closed then s else s.release k)
    else State.release (if (s.span k).state = .closed then s else s.release k) j) = b at hm hs
  rw [hm.span_eq, replaced_rederiveAll_span, hs.span_eq, hs.lineKept.lineOf]

theorem mergeClosed_store {k j : SpanId} (h : k ≠ j) (hk : (s.span k).state = .closed → s.queue k = [])
    (hj : (s.span j).state = .closed → s.queue j = []) :
    (s.mergeClosed k j).queue j = [] ∧ (s.mergeClosed k j).queue k = [] ∧
      (s.mergeClosed k j).free = s.free ++ indicesOf (s.queue k) ++ indicesOf (s.queue j) ∧
      (s.mergeClosed k j).watches = s.watches ∧ ∀ i, i ≠ j → i ≠ k → (s.mergeClosed k j).queue i = s.queue i := by
  have hm := mergeClosed_noticesOnly s k j _ _ rfl rfl
  obtain ⟨a1, a2, a3, a4⟩ := releaseUnless_store (s := s) (t := s) hk
  generalize (if (s.span k).state = .closed then s else s.release k) = a at hm a1 a2 a3 a4
  obtain ⟨b1, b2, b3, b4⟩ := releaseUnless_store (s := a) (t := s) (j := j) (fun hc => by rw [a4 j h.symm, hj hc])
  generalize (if (s.span j).state = .closed then a else a.release j) = b at hm b1 b2 b3 b4
  obtain ⟨c1, c2, c3, -⟩ := rederiveAll_store ((b.setSpan k Span.blank).setSpan j (s.span j).closedOf)
  generalize ((b.setSpan k Span.blank).setSpan j (s.span j).closedOf).rederiveAll = u at hm c1 c2 c3
  have hq : ∀ i, (s.mergeClosed k j).queue i = b.queue i := fun i => by
    rw [hm.queue_eq]
    exact congrArg (fun x => Trio.get x i) c2
  refine ⟨by rw [hq, b1], by rw [hq, b4 k h, a1], ?_, ?_, fun i hij hik => by rw [hq, b4 i hij, a4 i hik]⟩
  · rw [hm.free_eq, c1]
    exact b2.trans (by rw [a2, a4 j h.symm])
  · rw [hm.rest]
    exact c3.trans (b3.trans a3)

theorem blanked_rederiveAll_span (k i : SpanId) : ((s.setSpan k Span.blank).rederiveAll).span i =
    { (if i = k then Span.blank else s.span i) with line := s.lineOf i } := by
  rw [rederiveAll_span, lineOf_setSpan]
  by_cases hk : i = k
  · subst hk
    rw [setSpan_span_same, if_pos rfl]
  · rw [setSpan_span_ne _ _ _ hk, if_neg hk]

theorem splitClosed_span (k j i : SpanId) : (s.splitClosed k j).span i =
    { (if i = k then Span.blank else s.span i) with line := s.lineOf i } := by
  rw [(splitClosed_noticesOnly s k j).span_eq, blanked_rederiveAll_span]

theorem splitClosed_store (k j : SpanId) : (s.splitClosed k j).free = s.free ∧ (s.splitClosed k j).queues = s.queues ∧
    (s.splitClosed k j).watches = s.watches := by
  have hm := splitClosed_noticesOnly s k j
  obtain ⟨c1, c2, c3, -⟩ := rederiveAll_store (s.setSpan k Span.blank)
  generalize (s.setSpan k Span.blank).rederiveAll = u at hm c1 c2 c3
  rw [hm.rest]
  exact ⟨c1, c2, c3⟩

/-- A half of a split, from its line and its queue, before its epoch (R22). -/
def Span.halved (old : Span) (line : Option SpanLine) (ps : List Parcel) : Span :=
  { Span.blank with
    line := line
    q := satU48 (volumeIn ps)
    s := satU48 (solidsIn ps)
    latch := old.latch
    hold := old.hold
    verdict := old.verdict }

/-- The volume at which a split cuts the queue of span j: its fill volume as derived anew. -/
def State.cutVolume (s : State) (j : SpanId) : Nat := Span.vSpan { Span.blank with line := s.lineOf j }

/-- Both halves of a split, and every other record (R22). -/
theorem splitOpen_span {k j : SpanId} (h : k ≠ j) (i : SpanId) : (s.splitOpen k j).span i =
    if i = k ∨ i = j then ((s.span j).halved (s.lineOf i) ((s.splitQueue k j (s.cutVolume j)).queue i)).restarted s.lineTime
      (s.stateOn i (s.lineOf i))
    else { s.span i with line := s.lineOf i } := by
  have hm := splitOpen_noticesOnly s k j _ _ rfl rfl
  have hspan := blanked_rederiveAll_span (s := s) k
  obtain ⟨c1, c2, -, c4⟩ := rederiveAll_store (s.setSpan k Span.blank)
  obtain ⟨-, -, hin, -⟩ := rederiveAll_same (s := s.setSpan k Span.blank)
  generalize (s.setSpan k Span.blank).rederiveAll = a at hm hspan c1 c2 c4 hin
  have hv : (a.span j).vSpan = s.cutVolume j := by rw [hspan, if_neg h.symm]; rfl
  rw [hv] at hm
  obtain ⟨-, hq⟩ := splitQueue_congr (s := s) (t := a) c1 c2 k j (s.cutVolume j)
  have hb := storeOnly_splitQueue a k j (s.cutVolume j)
  generalize a.splitQueue k j (s.cutVolume j) = b at hm hq hb
  have hhalf : ∀ i, b.halfOf i (s.span j) =
      (s.span j).halved (s.lineOf i) ((s.splitQueue k j (s.cutVolume j)).queue i) := fun i => by
    simp only [State.halfOf, Span.halved, queue_congr hq, hb.span_eq, hspan]
  obtain ⟨-, -, hlt, -⟩ := hb.same
  have hst : ∀ i l, b.stateOn i l = s.stateOn i l := fun i l =>
    stateOn_congr (fun st => (hb.lineKept.service st).trans (hin st)) i l
  rw [hm.span_eq, restartSpan_eq (State.restartSpan _ k) j, restartSpan_eq _ k]
  simp only [hhalf]
  have hlt' : b.lineTime = s.lineTime := hlt.trans c4
  by_cases hij : i = j
  · subst hij
    rw [if_pos (.inr rfl)]
    simp only [setSpan_span_same, setSpan_span_ne _ _ _ h.symm, setSpan_lineTime, hlt']
    congr 1
    exact (stateOn_congr (s := b) (fun _ => rfl) i _).trans (hst i _)
  · rw [setSpan_span_ne _ _ _ hij]
    by_cases hik : i = k
    · subst hik
      rw [if_pos (.inl rfl)]
      simp only [setSpan_span_same, setSpan_span_ne _ _ _ h, setSpan_lineTime, hlt']
      congr 1
      exact (stateOn_congr (s := b) (fun _ => rfl) i _).trans (hst i _)
    · rw [if_neg (by simp [hij, hik]), setSpan_span_ne _ _ _ hik, setSpan_span_ne _ _ _ hij, setSpan_span_ne _ _ _ hik,
        hb.span_eq, hspan, if_neg hik]

/-- The store and the counters after a split are those of its cut (R70 to R72). -/
theorem splitOpen_store {k j : SpanId} (h : k ≠ j) :
    (s.splitOpen k j).free = (s.splitQueue k j (s.cutVolume j)).free ∧
      (s.splitOpen k j).queues = (s.splitQueue k j (s.cutVolume j)).queues ∧
      OfferedTo s (s.splitOpen k j) (if (cutWalk (s.cutVolume j) (s.queue j)).2.1 = none then [] else s.reclaimOffers) := by
  have hm := splitOpen_noticesOnly s k j _ _ rfl rfl
  have hspan := blanked_rederiveAll_span (s := s) k
  obtain ⟨c1, c2, c3, -⟩ := rederiveAll_store (s.setSpan k Span.blank)
  generalize (s.setSpan k Span.blank).rederiveAll = a at hm hspan c1 c2 c3
  have hv : (a.span j).vSpan = s.cutVolume j := by rw [hspan, if_neg h.symm]; rfl
  rw [hv] at hm
  obtain ⟨hf, hq⟩ := splitQueue_congr (s := s) (t := a) c1 c2 k j (s.cutVolume j)
  have hw := offeredTo_splitQueue a k j (s.cutVolume j)
  have hr : a.reclaimOffers = s.reclaimOffers := by
    simp only [State.reclaimOffers, c1, fullest_congr (s := s) (t := a) c2, queue_congr (s := s) (t := a) c2]
    rfl
  rw [hr, queue_congr (s := s) (t := a) c2] at hw
  generalize a.splitQueue k j (s.cutVolume j) = b at hm hf hq hw
  refine ⟨?_, ?_, ?_⟩
  · rw [hm.rest]
    exact hf
  · rw [hm.rest]
    exact hq
  · have hall : OfferedTo s b _ := (OfferedTo.of_watches (s := s) (t := a) c3).trans hw
    constructor
    rw [hm.rest]
    exact hall.watches

end

end Sys2Proof.Machine

end

section
/-! What a command can make of a span record: one inversion, from which the invariants of the records are derived. -/

namespace Sys2Proof.Machine

/-- One change of a span record. A SPAN_OPEN's volume and mass meet a condition C; a line replaced without an epoch has the
same fill volume, or the span is CLOSED. -/
inductive SpanChange (C : Nat → Nat → Prop) (sp : Span) : Span → Prop
  | held (e : Option LineTime) : SpanChange C sp { sp with hold := e }
  | updated (d : DrainReport) (v m vel : Nat) (t : Thresholds) (f : Flags) (taint : Bool)
      (hd : d.drained + d.shortfall = v) (hv : vel ≤ 65535) : SpanChange C sp ((sp.weighed d v m vel).judged t f taint)
  | filled (v m vel : Nat) (hv : vel ≤ 65535) : SpanChange C sp (sp.takeInflow v m vel)
  | filledIdle : SpanChange C sp sp.takeIdleInflow
  | opened (l : SpanLine) (now : LineTime) (m : Nat) (hl : sp.line = some l) (hm : C l.vSpan m) :
      SpanChange C sp (sp.openedWith now l.vSpan m)
  | emptied (line : Option SpanLine) : SpanChange C sp { Span.blank with line := line }
  | suspended (ho : sp.state = .opened) : SpanChange C sp (Span.derive { sp with state := .suspended })
  | resumed (now : LineTime) (hs : sp.line ≠ none) : SpanChange C sp (Span.epoch { sp with state := .opened } now).derive
  | cleared : SpanChange C sp sp.cleared
  | restarted (x : Span) (now : LineTime) (v : SpanState) (hq : x.q ≤ maxU48) (hs : x.s ≤ maxU48) (hd : x.d ≤ maxU48)
      (hv : x.line = none → v = .closed) : SpanChange C sp (x.restarted now v)
  | redrawn (l l' : SpanLine) (changed : Bool) (now : LineTime) (hl : sp.line = some l)
      (hv : changed = false → l'.vSpan = l.vSpan) : SpanChange C sp (sp.redrawn (some l') changed now)
  | placed (line : Option SpanLine) (hl : sp.line = none) : SpanChange C sp { sp with line := line }

/-- Every span record comes from another state's by changes of one record. -/
def SpansMove (C : Nat → Nat → Prop) (s t : State) : Prop :=
  ∀ j, Relation.ReflTransGen (SpanChange C) (s.span j) (t.span j)

section
variable {C : Nat → Nat → Prop} {s t u : State}

theorem SpansMove.of_eq (h : ∀ j, t.span j = s.span j) : SpansMove C s t := fun j => by
  rw [h]

theorem SpansMove.trans (h : SpansMove C s t) (k : SpansMove C t u) : SpansMove C s u := fun j => (h j).trans (k j)

theorem spansMove_setSpan {j : SpanId} {x : Span} (h : SpanChange C (s.span j) x) : SpansMove C s (s.setSpan j x) := by
  intro i
  by_cases hi : i = j
  · subst hi
    rw [setSpan_span_same]
    exact .single h
  · rw [setSpan_span_ne _ _ _ hi]

theorem NoticesOnly.spansMove (h : NoticesOnly s t) : SpansMove C s t := .of_eq h.span_eq

theorem SamplesOnly.spansMove (h : SamplesOnly s t) : SpansMove C s t := .of_eq h.span_eq

theorem StoreOnly.spansMove (h : StoreOnly s t) : SpansMove C s t := .of_eq h.span_eq

theorem spansMove_of_changes (h : ∀ j, t.span j = s.span j ∨ SpanChange C (s.span j) (t.span j)) : SpansMove C s t := by
  intro j
  obtain h | h := h j
  · rw [h]
  · exact .single h

/-- A predicate of one record that every change keeps. -/
theorem SpansMove.keeps {P : Span → Prop} (h : SpansMove C s t) (hP : ∀ x y, SpanChange C x y → P x → P y)
    (hs : ∀ j, P (s.span j)) (j : SpanId) : P (t.span j) := by
  have hj := h j
  have h0 := hs j
  generalize s.span j = x, t.span j = y at hj h0
  induction hj with
  | refl => exact h0
  | tail _ hc ih => exact hP _ _ hc ih

/-! The engine. -/

theorem drain_volume (r : Nat) (ps : List Parcel) : (drainQueue r ps).drained + (drainQueue r ps).shortfall = r := by
  induction ps generalizing r with
  | nil => simp [drainQueue, DrainReport.drained]
  | cons p ps ih =>
    unfold drainQueue
    split
    · rename_i h
      simp [DrainReport.drained, h]
    · split
      · have := ih (r - p.volume)
        simp only [DrainReport.drained, List.map_cons, List.sum_cons, Parcel.portion] at this ⊢
        omega
      · simp [DrainReport.drained, Parcel.portion]

theorem velocity_le (v area tC : Nat) : velocity v area tC ≤ 65535 := min_le_right _ _

theorem spansMove_balanceUpdate (j : SpanId) (l : SpanLine) (c : Conversion) (m : Nat) :
    SpansMove C s (s.balanceUpdate j l c m) := by
  have hd := (storeOnly_drained s j (drainQueue c.v (s.queue j))).spansMove (C := C)
  refine (hd.trans (spansMove_setSpan ?_)).trans (balanceUpdate_samplesOnly s j l c m).spansMove
  exact .updated _ _ _ _ _ _ _ (drain_volume _ _) (velocity_le _ _ _)

theorem spansMove_inflowTo (j : SpanId) (l : SpanLine) (st : StationId) (b : BankId) (c : Conversion) (m : Nat) :
    SpansMove C s (s.inflowTo j l st b c m) := by
  by_cases hv : c.v = 0
  · rw [inflowTo_idle _ _ _ _ _ _ _ hv]
    exact spansMove_setSpan .filledIdle
  · refine SpansMove.trans ?_ (inflowTo_samplesOnly s j l st b c m hv).spansMove
    refine ((storeOnly_allocate s).trans (storeOnly_append _ _ _)).spansMove.trans (spansMove_setSpan ?_)
    exact .filled _ _ _ (velocity_le _ _ _)

theorem spansMove_outflowSide (st : StationId) (c : Conversion) (m : Nat) : SpansMove C s (s.outflowSide st c m) := by
  obtain e | ⟨j, l, -, -, -, e⟩ := outflowSide_cases s st c m <;> rw [e]
  · exact .of_eq fun _ => rfl
  · exact spansMove_balanceUpdate j l c m

theorem spansMove_inflowSide (st : StationId) (b : BankId) (c : Conversion) (m : Nat) :
    SpansMove C s (s.inflowSide st b c m) := by
  obtain e | ⟨j, l, -, -, -, e⟩ := inflowSide_cases s st b c m <;> rw [e]
  · exact .of_eq fun _ => rfl
  · exact spansMove_inflowTo j l st b c m

theorem convertHead_span (st : StationId) (j : SpanId) : (s.convertHead st).span j = s.span j :=
  (convertHead_samplesOnly_headConverted s st).span_eq j

theorem spansMove_applyGrant (p : PortId) (r : Reading) (c : Conversion) (m : Nat) :
    SpansMove C s (s.applyGrant p r c m) := by
  have h0 : SpansMove C s { s with lastGranted := some p } := .of_eq fun _ => rfl
  exact ((h0.trans (spansMove_outflowSide p c m)).trans (spansMove_inflowSide p r.bank c m)).trans
    (.of_eq fun j => convertHead_span p j)

/-! The span table. -/

theorem spansMove_openSpan {j : SpanId} {l : SpanLine} {cFill : Nat} (hl : (s.span j).line = some l)
    (hC : C l.vSpan (massOf l.vSpan cFill ((s.station l.upstream).banks.get (s.station l.upstream).active).rhoS)) :
    SpansMove C s (s.openSpan j l cFill) := by
  obtain ⟨p, hp, h⟩ := openSpan_noticesOnly s j l cFill
  have hs := (storeOnly_allocate s).trans (storeOnly_append _ j p)
  refine (hs.spansMove.trans (spansMove_setSpan ?_)).trans h.spansMove
  have hm : C l.vSpan p.solids := by rw [hp]; exact hC
  exact .opened l _ _ (by rw [hs.span_eq]; exact hl) hm

theorem spansMove_closeSpan (j : SpanId) : SpansMove C s (s.closeSpan j) :=
  ((storeOnly_release s j).spansMove.trans (spansMove_setSpan (.emptied _))).trans (closeSpan_noticesOnly s j).spansMove

theorem spansMove_suspendSpan (j : SpanId) : SpansMove C s (s.suspendSpan j) := by
  by_cases h : (s.span j).state = .opened
  · exact (spansMove_setSpan (.suspended h)).trans (suspendSpan_noticesOnly s j h).spansMove
  · rw [State.suspendSpan, if_neg h]
    exact .of_eq fun _ => rfl

theorem spansMove_resumeSpan (j : SpanId) : SpansMove C s (s.resumeSpan j) := by
  unfold State.resumeSpan
  split
  · exact .of_eq fun _ => rfl
  · rename_i l hl
    split
    · exact (spansMove_setSpan (.resumed _ (by simp [hl]))).trans
        ((noticesOnly_raiseSpan _ _ _).trans (noticesOnly_announceVerdict _ _ _)).spansMove
    · exact .of_eq fun _ => rfl

theorem satU48_le (x : Nat) : satU48 x ≤ maxU48 := min_le_right _ _

theorem stateOn_none (j : SpanId) : s.stateOn j none = .closed := rfl

/-- A record whose line is the one that its span held is the record it was. -/
theorem span_with_line {sp : Span} {line : Option SpanLine} (h : line = sp.line) : { sp with line := line } = sp := by
  rw [h]

/-- A merge changes two records, where the lines of the others are as derived. -/
theorem spansMove_merge {k j : SpanId} (hline : ∀ i, i ≠ j → i ≠ k → s.lineOf i = (s.span i).line) :
    SpansMove C s (s.mergeClosed k j) ∧ SpansMove C s (s.mergeOpen k j) := by
  refine ⟨spansMove_of_changes fun i => ?_, spansMove_of_changes fun i => ?_⟩
  · rw [mergeClosed_span]
    by_cases hj : i = j
    · subst hj
      exact .inr (by simpa [Span.closedOf] using SpanChange.emptied (s.lineOf i))
    · by_cases hk : i = k
      · subst hk
        exact .inr (by simpa [hj] using SpanChange.emptied (s.lineOf i))
      · exact .inl (by simpa [hj, hk] using span_with_line (hline i hj hk))
  · rw [mergeOpen_span]
    by_cases hj : i = j
    · subst hj
      rw [if_pos rfl]
      exact .inr (.restarted _ _ _ (satU48_le _) (satU48_le _) (satU48_le _) fun h => by rw [show s.lineOf i = none from h, stateOn_none])
    · rw [if_neg hj]
      by_cases hk : i = k
      · subst hk
        exact .inr (by simpa using SpanChange.emptied (s.lineOf i))
      · exact .inl (by simpa [hk] using span_with_line (hline i hj hk))

/-- A split changes two records, where the lines of the others are as derived; that of a CLOSED span keeps its other fields. -/
theorem spansMove_split {k j : SpanId} (hkj : k ≠ j) (hline : ∀ i, i ≠ j → i ≠ k → s.lineOf i = (s.span i).line)
    {l l' : SpanLine} (hl : (s.span j).line = some l) (hl' : s.lineOf j = some l') :
    ((s.span j).state = .closed → SpansMove C s (s.splitClosed k j)) ∧ SpansMove C s (s.splitOpen k j) := by
  refine ⟨fun hc => spansMove_of_changes fun i => ?_, spansMove_of_changes fun i => ?_⟩
  · rw [splitClosed_span]
    by_cases hk : i = k
    · subst hk
      exact .inr (by simpa using SpanChange.emptied (s.lineOf i))
    · by_cases hj : i = j
      · subst hj
        right
        rw [if_neg hk, hl']
        have h := SpanChange.redrawn (C := C) l l' true 0 hl (by simp)
        rwa [redrawn_of_same 0 (by simp [hc])] at h
      · exact .inl (by simpa [hk] using span_with_line (hline i hj hk))
  · rw [splitOpen_span hkj]
    by_cases hh : i = k ∨ i = j
    · rw [if_pos hh]
      exact .inr (.restarted _ _ _ (satU48_le _) (satU48_le _) (Nat.zero_le _) fun h => by
        rw [show s.lineOf i = none from h, stateOn_none])
    · rw [if_neg hh]
      rw [not_or] at hh
      exact .inl (span_with_line (hline i hh.2 hh.1))

/-- Where an interior station leaves service, from the search of the merge. -/
theorem interior_of_fed (ht : s.topologyHolds) {st : StationId} {k j : SpanId} (hk : SegId.endingAt st = some k)
    (hj : s.spanFedBy st = some j) : ∃ lj, (s.span j).line = some lj ∧ lj.upstream = st ∧ k.downStation = st ∧
      0 < st.val ∧ st.val + 1 < s.n ∧ k ≠ j := by
  obtain ⟨lj, hlj, hu⟩ := spanFedBy_some hj
  have hst := endingAt_eq_some_iff.1 hk
  have hb := line_bounds ht hlj
  have hkn : st.val = k.num := by rw [hst, downStation_val]
  have hk1 : 1 ≤ k.num := by cases k <;> decide
  rw [hu] at hb
  refine ⟨lj, hlj, hu, hst.symm, by omega, by omega, ?_⟩
  rintro rfl
  omega

theorem spansMove_changeService (ht : s.topologyHolds) (st : StationId) (v : ServiceState) (e : Option LineTime) :
    SpansMove C s (s.changeService st v e) := by
  obtain ⟨-, hn, -⟩ := serviceTold_same s st v e
  have htold : SpansMove C s (s.serviceTold st v e) := .of_eq (serviceTold_span s st v e)
  have hlines : ∀ j, ((s.serviceTold st v e).span j).line = (s.span j).line := fun j => by rw [serviceTold_span]
  rw [changeService_eq]
  refine htold.trans ?_
  split
  · rename_i hleave
    have hmoved := serviceTold_moved s st v e (by rw [hleave.1]; simpa using hleave.2)
    unfold State.stationLeft
    split
    · split
      · exact .of_eq fun _ => rfl
      · exact spansMove_suspendSpan _
    · obtain ⟨he, -⟩ | ⟨k, j, hk, hj, he⟩ := mergeAt_cases (s.serviceTold st v e) st <;> rw [he]
      · exact .of_eq fun _ => rfl
      · rw [spanFedBy_congr hlines] at hj
        obtain ⟨lj, hlj, hu, hkst, h0, h1, -⟩ := interior_of_fed ht hk hj
        have hke : s.isSpanEnd k = true := by rw [isSpanEnd_interior hkst h1, hleave.1]
        obtain ⟨-, -, hother⟩ := lineOf_of_left ht hmoved hleave.1 h1 hkst (line_of_isSpanEnd ht hke) hlj hu
        have hm := spansMove_merge (C := C) (s := s.serviceTold st v e) (k := k) (j := j) fun i hij hik => by
          rw [hother i hij hik, hlines, ht.2]
        split
        · exact hm.1
        · exact hm.2
  · split
    · rename_i hreturn
      have hmoved := serviceTold_moved s st v e (by rw [hreturn.1, hreturn.2]; rfl)
      unfold State.stationReturned
      split
      · split
        · exact .of_eq fun _ => rfl
        · exact spansMove_resumeSpan _
      · rename_i hend
        obtain ⟨he, -⟩ | ⟨k, j, hk, hj, he⟩ := splitAt_cases (s.serviceTold st v e) st <;> rw [he]
        · exact .of_eq fun _ => rfl
        · rw [spanContaining_congr hlines] at hj
          obtain ⟨l, hl, hu, hkj⟩ := spanContaining_some hj
          have hkst := (endingAt_eq_some_iff.1 hk).symm
          have hkn : st.val = k.num := by rw [← hkst, downStation_val]
          have hb := line_bounds ht hl
          rw [isLineEnd_iff, hn] at hend
          have h1 : st.val + 1 < s.n := by omega
          have hlt : k.num < j.num := by
            refine lt_of_le_of_ne hkj fun h => ?_
            have hke := (line_of_topology ht hl).1
            rw [← SegId.eq_of_num_eq h, isSpanEnd_interior hkst h1, hreturn.1] at hke
            cases hke
          obtain ⟨-, ⟨lj, hlj, -⟩, hother⟩ := lineOf_of_returned ht hmoved hreturn.1 h1 hkst hl hu hlt
          have hkj' : k ≠ j := by
            rintro rfl
            exact lt_irrefl _ hlt
          have hm := spansMove_split (C := C) (s := s.serviceTold st v e) hkj' (fun i hij hik => by
            rw [hother i hij hik, hlines, ht.2]) (by rw [hlines]; exact hl) hlj
          split
          · rename_i hc
            exact hm.1 hc
          · exact hm.2
    · exact .of_eq fun _ => rfl

/-! The application of settings. -/

/-- The fill volume of a segment whose length and diameter stand (R9). -/
theorem applied_vSeg {g : Segment} {x : Settings} (hv : g.vSeg = vSegOf (areaOf g.settings.dPipe) g.settings.length)
    (h : g.reshaped x = false) : (g.applied x).vSeg = g.vSeg := by
  simp only [Segment.reshaped, Bool.or_eq_false_iff, bne_eq_false_iff_eq] at h
  rw [hv, h.1, h.2]
  rfl

theorem spansMove_applySettings (ht : s.topologyHolds) (hg : s.geometryHolds) {k : SegId} (hk : k.num < s.n)
    (x : Settings) : SpansMove C s (s.applySettings k x) := by
  obtain ⟨j, l, hl, -, -, hj, -⟩ := applySettings_span ht hk x
  have h0 : SpansMove C s (s.setSegment k ((s.segment k).applied x)) := .of_eq fun _ => rfl
  refine (h0.trans (spansMove_setSpan ?_)).trans (applySettings_noticesOnly s k x hj).spansMove
  obtain ⟨hje, hjl⟩ := line_of_topology ht hl
  have hline : (s.setSegment k ((s.segment k).applied x)).lineOf j =
      some ((s.setSegment k ((s.segment k).applied x)).derivedLine j) := by
    rw [State.lineOf, if_pos]
    exact hje
  rw [hline]
  refine .redrawn l _ _ _ hl fun hc => ?_
  rw [hjl]
  simp only [State.derivedLine, State.sumOver]
  refine congrArg List.sum (List.map_congr_left fun i _ => ?_)
  by_cases hi : i = k
  · subst hi
    rw [setSegment_segment_same]
    exact applied_vSeg (hg.1 i (isSegment_iff.2 hk)).2.2 hc
  · rw [setSegment_segment_ne _ _ _ hi]

/-! Every command. -/

/-- What a SPAN_OPEN may find: the condition C of its volume and mass. -/
def OpensWithin (C : Nat → Nat → Prop) (s : State) : Prop :=
  ∀ j l cFill, (s.span j).line = some l →
    cFill ≤ ((s.station l.upstream).banks.get (s.station l.upstream).active).cMax * 10 →
    C l.vSpan (massOf l.vSpan cFill ((s.station l.upstream).banks.get (s.station l.upstream).active).rhoS)

theorem Answers.spansMove {p : PortId} (h : Answers p s t) (ht : s.topologyHolds) (hg : s.geometryHolds)
    (hC : OpensWithin C s) : SpansMove C s t := by
  cases h with
  | same => exact .of_eq fun _ => rfl
  | stationIn hout => exact spansMove_changeService ht p _ _
  | stationOut hnot => exact spansMove_changeService ht p _ _
  | readingQueued r hr hlen hq => exact .of_eq fun _ => rfl
  | readingAtHead r hr hq => exact .of_eq fun j => convertHead_span p j
  | resolved r rest c c' m hq hr => exact .of_eq fun _ => rfl
  | bankWritten b w x hx => exact .of_eq fun _ => rfl
  | bankSelected b => exact .of_eq fun _ => rfl
  | spanOpened j l cFill hl hp hc he hf =>
    subst hp
    exact spansMove_openSpan hl (hC j l cFill hl hf)
  | spanClosed j l hl hc => exact spansMove_closeSpan j
  | verdictCleared j l hl => exact (spansMove_setSpan .cleared).trans (noticesOnly_announceVerdict _ _ _).spansMove
  | proposed k x hk hp hx => exact .of_eq fun _ => rfl
  | applied k q hk hq => exact spansMove_applySettings ht hg hk q.settings
  | withdrawn k hk hp => exact .of_eq fun _ => rfl
  | watchOwned i w hw => exact .of_eq fun _ => rfl
  | watchesFrozen flag => exact .of_eq fun _ => rfl
  | noticeTaken urgent routine hu => exact .of_eq fun _ => rfl

theorem spansMove_holdIfTouched (st : StationId) (j : SpanId) : SpansMove C s (s.holdIfTouched st j) := by
  unfold State.holdIfTouched
  split
  · exact spansMove_setSpan (.held _)
  · exact .of_eq fun _ => rfl

theorem spansMove_trippedBy (st : StationId) : SpansMove C s (s.trippedBy st) :=
  ((spansMove_holdIfTouched _ _).trans (spansMove_holdIfTouched _ _)).trans (spansMove_holdIfTouched _ _)

theorem Steps.spansMove (h : Steps s t) (ht : s.topologyHolds) (he : s.emptyUntilConfigured) (hg : s.geometryHolds)
    (hC : OpensWithin C s) : SpansMove C s t := by
  cases h with
  | same => exact .of_eq fun _ => rfl
  | reset =>
    refine spansMove_of_changes fun j => .inr ?_
    rw [reset_span]
    exact .emptied none
  | accept img hc ha =>
    refine spansMove_of_changes fun j => .inr ?_
    rw [accept_span]
    refine .placed _ ?_
    rw [ht.2 j, State.lineOf, if_neg]
    intro hj
    have := isSpanEnd_lt hj
    rw [he (by simp [hc])] at this
    exact Nat.not_lt_zero _ this
  | refuseImage hc =>
    refine .of_eq fun j => ?_
    rw [refuseImage_rest]
    rfl
  | tick => exact .of_eq fun _ => rfl
  | silence st hin => exact spansMove_changeService ht st _ _
  | resolve st r rest c c' m hq hr => exact .of_eq fun _ => rfl
  | agreement k q hq => exact .of_eq fun _ => rfl
  | holdEnds j => exact spansMove_setSpan (.held none)
  | tripFalls p hc =>
    have h0 : SpansMove C s (s.setPort p { s.port p with trip := .low }) := .of_eq fun _ => rfl
    exact h0.trans (spansMove_trippedBy p)
  | tripReleased p => exact .of_eq fun _ => rfl
  | received p rx => exact .of_eq fun _ => rfl
  | replied p kind code hb => exact .of_eq fun _ => rfl
  | answered p r u kind result body hb hp hu =>
    subst hu
    have h0 : SpansMove C s (s.setRx p .hunt) := .of_eq fun _ => rfl
    have h1 : LineKept s (s.setRx p .hunt) := lineKept_setRx p .hunt
    have h2 := (answerTo_answers p r (s.setRx p .hunt)).spansMove (C := C) (h1.topologyHolds ht) (h1.geometryHolds hg) hC
    exact (h0.trans h2).trans (.of_eq fun _ => rfl)
  | restarted p => exact .of_eq fun _ => rfl
  | replySent p => exact .of_eq fun _ => rfl
  | granted p r c m hr => exact spansMove_applyGrant p r c m

end

end Sys2Proof.Machine

end

section
/-! The span record through every change: the window and its sums, the latch, the ranges, and the balance identity (R76 to R101,
R121, R123): O32, O56 and O57. -/

namespace Sys2Proof.Machine

/-- A step is one of the changes of `Steps` on the state with some queue of commands. -/
theorem steps_of_step {s t : State} (h : step s = .next t) : ∃ pending, Steps { s with pending := pending } t := by
  unfold step at h
  split at h
  · cases h
    exact ⟨s.pending, .same⟩
  · exact ⟨_, exec_steps h⟩

/-! The window (R96). -/

/-- The window of a record holds at most 16 entries, and its sums are those of its entries. -/
def Span.windowHolds (sp : Span) : Prop :=
  sp.window.length ≤ 16 ∧ sp.wI = (sp.window.map (fun w => w.dI)).sum ∧
    sp.wV = (sp.window.map (fun w => w.vOut)).sum ∧ sp.wE = (sp.window.map (fun w => w.e)).sum

section
variable {sp : Span} {w : WindowEntry}

theorem pushEntry_of_room (h : sp.window.length < 16) : sp.pushEntry w = sp.addEntry w := by
  unfold Span.pushEntry Span.dropOldest
  split
  · rfl
  · rw [if_neg (by simpa [windowSize] using h)]

theorem pushEntry_of_full {o : WindowEntry} {rest : List WindowEntry} (hw : sp.window = o :: rest)
    (h : sp.window.length = 16) : sp.pushEntry w =
      Span.addEntry { sp with window := rest, wI := sp.wI - o.dI, wV := sp.wV - o.vOut, wE := sp.wE - o.e } w := by
  unfold Span.pushEntry Span.dropOldest
  rw [hw] at h ⊢
  simp only [windowSize, h, le_refl, if_true]

theorem addEntry_windowHolds (h : sp.windowHolds) (hr : sp.window.length < 16) : (sp.addEntry w).windowHolds := by
  obtain ⟨-, hI, hV, hE⟩ := h
  refine ⟨?_, ?_, ?_, ?_⟩
  · simp only [Span.addEntry, List.length_append, List.length_cons, List.length_nil]
    omega
  · simp [Span.addEntry, hI]
  · simp [Span.addEntry, hV]
  · simp [Span.addEntry, hE]

/-- The oldest entry leaves with its values. -/
theorem windowHolds_tail {o : WindowEntry} {rest : List WindowEntry} (h : sp.windowHolds) (hw : sp.window = o :: rest) :
    Span.windowHolds { sp with window := rest, wI := sp.wI - o.dI, wV := sp.wV - o.vOut, wE := sp.wE - o.e } := by
  obtain ⟨hl, hI, hV, hE⟩ := h
  rw [hw] at hl hI hV hE
  simp only [List.length_cons, List.map_cons, List.sum_cons] at hl hI hV hE
  refine ⟨?_, ?_, ?_, ?_⟩
  · show rest.length ≤ 16
    omega
  · show sp.wI - o.dI = (rest.map fun w => w.dI).sum
    rw [hI]
    ring
  · show sp.wV - o.vOut = (rest.map fun w => w.vOut).sum
    rw [hV]
    omega
  · show sp.wE - o.e = (rest.map fun w => w.e).sum
    rw [hE]
    omega

theorem pushEntry_windowHolds (h : sp.windowHolds) (w : WindowEntry) : (sp.pushEntry w).windowHolds := by
  by_cases hr : sp.window.length < 16
  · rw [pushEntry_of_room hr]
    exact addEntry_windowHolds h hr
  · have hfull : sp.window.length = 16 := le_antisymm h.1 (not_lt.1 hr)
    cases hw : sp.window with
    | nil => simp [hw] at hfull
    | cons o rest =>
      rw [pushEntry_of_full hw hfull]
      refine addEntry_windowHolds (windowHolds_tail h hw) ?_
      show rest.length < 16
      rw [hw, List.length_cons] at hfull
      omega

theorem windowHolds_congr {y : Span} (h : sp.windowHolds) (hw : y.window = sp.window) (hI : y.wI = sp.wI)
    (hV : y.wV = sp.wV) (hE : y.wE = sp.wE) : y.windowHolds := by
  simpa only [Span.windowHolds, hw, hI, hV, hE] using h

theorem pushEntry_window (sp : Span) (w : WindowEntry) : (sp.pushEntry w).window =
    (if sp.window.length < 16 then sp.window else sp.window.tail) ++ [w] := by
  unfold Span.pushEntry Span.dropOldest
  split
  · rename_i h
    simp [Span.addEntry, h]
  · rename_i o rest h
    by_cases hl : sp.window.length < 16
    · rw [if_neg (by simpa [windowSize] using hl), if_pos hl]
      rfl
    · rw [if_pos (by simpa [windowSize] using hl), if_neg hl, h]
      rfl

end

/-! A balance update's record (R89 to R98). -/

section
variable {sp : Span} {d : DrainReport} {v m vel : Nat}

/-- The record that steps 2 to 5 of a balance update leave, field by field. -/
theorem weighed_eq (sp : Span) (d : DrainReport) (v m vel : Nat) : sp.weighed d v m vel =
    { sp with
      q := sp.q - d.drained
      s := sp.s - d.e
      d := satU48 (sp.d + d.shortfall)
      i := satS48 (sp.i + deficitOf d.e m)
      outflow := satU48 (sp.outflow + v)
      updates := min (sp.updates + 1) maxUpdates
      mark := (sp.mark || decide (sp.q < d.drained) || decide (sp.s < d.e) || overU48 (sp.d + d.shortfall)) ||
        overS48 (sp.i + deficitOf d.e m) || overU48 (sp.outflow + v)
      window := (sp.pushEntry ⟨deficitOf d.e m, v, d.e⟩).window
      wI := (sp.pushEntry ⟨deficitOf d.e m, v, d.e⟩).wI
      wV := (sp.pushEntry ⟨deficitOf d.e m, v, d.e⟩).wV
      wE := (sp.pushEntry ⟨deficitOf d.e m, v, d.e⟩).wE
      vOut := some vel } := by
  have hsums : ((sp.takeDrain d).takeDeficit (deficitOf d.e m) v).pushEntry ⟨deficitOf d.e m, v, d.e⟩ =
      { (sp.takeDrain d).takeDeficit (deficitOf d.e m) v with
        window := (sp.pushEntry ⟨deficitOf d.e m, v, d.e⟩).window
        wI := (sp.pushEntry ⟨deficitOf d.e m, v, d.e⟩).wI
        wV := (sp.pushEntry ⟨deficitOf d.e m, v, d.e⟩).wV
        wE := (sp.pushEntry ⟨deficitOf d.e m, v, d.e⟩).wE } := by
    have hw : ((sp.takeDrain d).takeDeficit (deficitOf d.e m) v).window = sp.window := rfl
    unfold Span.pushEntry Span.dropOldest
    rw [hw]
    split
    · rfl
    · split <;> rfl
  rw [Span.weighed, hsums]
  rfl

/-- A record judged: the evidence moved where the update is counted, and the verdict derived (R98). -/
theorem judged_eq (sp : Span) (t : Thresholds) (f : Flags) (taint : Bool) : sp.judged t f taint =
    { sp with
      eLeak := (if sp.counts f taint then sp.evaluate t else sp).eLeak
      eDep := (if sp.counts f taint then sp.evaluate t else sp).eDep
      eDrift := (if sp.counts f taint then sp.evaluate t else sp).eDrift
      verdict := (sp.judged t f taint).verdict
      latch := (sp.judged t f taint).latch } := by
  unfold Span.judged
  split <;> rfl

end

/-! Ranges (R76, R79, R113). -/

theorem satS48_range (x : Int) : -2 ^ 47 ≤ satS48 x ∧ satS48 x ≤ 2 ^ 47 - 1 := by
  simp only [satS48, minS48, maxS48]
  omega

theorem moveEvidence_le (e : Nat) (b : Bool) (h : e ≤ 255) : moveEvidence e b ≤ 255 := by
  cases b <;> simp only [moveEvidence, maxEvidence] <;> simp only [if_true, Bool.false_eq_true, if_false] <;> omega

section
variable {sp : Span}

theorem inRange_blank (line : Option SpanLine) : Span.inRange { Span.blank with line := line } := by
  simp [Span.inRange, Span.blank]

theorem inRange_epoch (now : LineTime) (hq : sp.q ≤ maxU48) (hs : sp.s ≤ maxU48) (hd : sp.d ≤ maxU48) :
    (sp.epoch now).inRange := by
  have hnone : ∀ v : Nat, (none : Option Nat) = some v → v ≤ 65535 := fun _ h => by cases h
  refine ⟨Nat.zero_le _, Nat.zero_le _, Nat.zero_le _, hnone, hnone, hq, hs, hd,
    Nat.zero_le _, Nat.zero_le _, Nat.zero_le _, satS48_range _, ?_⟩
  simp [Span.epoch]

theorem inRange_weighed (h : sp.inRange) (d : DrainReport) (v m : Nat) {vel : Nat} (hv : vel ≤ 65535) :
    (sp.weighed d v m vel).inRange := by
  obtain ⟨h1, h2, h3, h4, -, h6, h7, -, h9, -, -, h12, -⟩ := h
  rw [weighed_eq]
  exact ⟨h1, h2, h3, h4, fun x hx => Option.some.inj hx ▸ hv, (Nat.sub_le _ _).trans h6, (Nat.sub_le _ _).trans h7,
    min_le_right _ _, h9, min_le_right _ _, min_le_right _ _, h12, satS48_range _⟩

theorem inRange_judged (h : sp.inRange) (t : Thresholds) (f : Flags) (taint : Bool) : (sp.judged t f taint).inRange := by
  unfold Span.judged
  split
  · obtain ⟨h1, h2, h3, rest⟩ := h
    exact ⟨moveEvidence_le _ _ h1, moveEvidence_le _ _ h2, moveEvidence_le _ _ h3, rest⟩
  · exact h

theorem inRange_takeInflow (h : sp.inRange) (v m : Nat) {vel : Nat} (hv : vel ≤ 65535) :
    (sp.takeInflow v m vel).inRange := by
  obtain ⟨h1, h2, h3, -, h5, -, -, h8, -, rest⟩ := h
  exact ⟨h1, h2, h3, fun x hx => Option.some.inj hx ▸ hv, h5, min_le_right _ _, min_le_right _ _, h8, min_le_right _ _, rest⟩

theorem inRange_takeIdleInflow (h : sp.inRange) : sp.takeIdleInflow.inRange := by
  obtain ⟨h1, h2, h3, -, rest⟩ := h
  exact ⟨h1, h2, h3, fun x hx => Option.some.inj hx ▸ Nat.zero_le _, rest⟩

theorem inRange_cleared (h : sp.inRange) : sp.cleared.inRange := by
  obtain ⟨-, rest⟩ := h
  exact ⟨Nat.zero_le _, rest⟩

end

/-! O57: the form of every record. -/

/-- What O57 keeps of a record. -/
def Span.recordHolds (sp : Span) : Prop := (sp.verdict = .leak ↔ sp.latch = true) ∧ sp.windowHolds ∧ sp.inRange

section
variable {sp y : Span}

theorem windowHolds_empty (hw : y.window = []) (hI : y.wI = 0) (hV : y.wV = 0) (hE : y.wE = 0) : y.windowHolds := by
  simp [Span.windowHolds, hw, hI, hV, hE]

theorem recordHolds_of_derived (hw : sp.windowHolds) (hr : sp.inRange) : sp.derive.recordHolds :=
  ⟨derive_leak_iff_latch sp, hw, hr⟩

theorem recordHolds_epoch_derive (now : LineTime) (hq : sp.q ≤ maxU48) (hs : sp.s ≤ maxU48) (hd : sp.d ≤ maxU48) :
    (sp.epoch now).derive.recordHolds :=
  recordHolds_of_derived (windowHolds_empty rfl rfl rfl rfl) (inRange_epoch now hq hs hd)

/-- The volume and mass that a SPAN_OPEN may bring: within the width of Q and S. -/
def openFits (v m : Nat) : Prop := v ≤ maxU48 ∧ m ≤ maxU48

/-- Every change of a record keeps its form. -/
theorem recordHolds_of_change (h : SpanChange openFits sp y) (hs : sp.recordHolds) : y.recordHolds := by
  obtain ⟨hl, hw, hr⟩ := hs
  have hq := hr.2.2.2.2.2.1
  have hss := hr.2.2.2.2.2.2.1
  have hd := hr.2.2.2.2.2.2.2.1
  cases h with
  | held e => exact ⟨hl, hw, hr⟩
  | updated d v m vel t f taint hd hv =>
    refine ⟨?_, ?_, inRange_judged (inRange_weighed hr d v m hv) t f taint⟩
    · exact derive_leak_iff_latch _
    · refine windowHolds_congr (pushEntry_windowHolds hw ⟨deficitOf d.e m, v, d.e⟩) ?_ ?_ ?_ ?_ <;>
        rw [judged_eq, weighed_eq]
  | filled v m vel hv => exact ⟨hl, hw, inRange_takeInflow hr v m hv⟩
  | filledIdle => exact ⟨hl, hw, inRange_takeIdleInflow hr⟩
  | opened l now m hl hm => exact recordHolds_epoch_derive now hm.1 hm.2 (Nat.zero_le _)
  | emptied line => exact ⟨by simp [Span.blank], windowHolds_empty rfl rfl rfl rfl, inRange_blank line⟩
  | suspended ho => exact recordHolds_of_derived hw hr
  | resumed now hne => exact recordHolds_epoch_derive now hq hss hd
  | cleared => exact ⟨derive_leak_iff_latch _, hw, inRange_cleared hr⟩
  | restarted x now v hq hss hd hv =>
    exact recordHolds_of_derived (windowHolds_empty rfl rfl rfl rfl) (inRange_epoch now hq hss hd)
  | redrawn l l' changed now hl' hv =>
    unfold Span.redrawn
    simp only
    split
    · exact recordHolds_epoch_derive now hq hss hd
    · exact ⟨hl, hw, hr⟩
  | placed line hn => exact ⟨hl, hw, hr⟩

end

/-! The fill volume of a span and the mass of its prime parcel are within their width (R8, R9, R14, R27). -/

theorem settings_bounds {x : Settings} (h : x.valid = true) : x.length ≤ 30000 ∧ 10 ≤ x.length ∧ x.dPipe ≤ 1200 ∧
    100 ≤ x.dPipe := by
  simp only [Settings.valid, within, Bool.and_eq_true, decide_eq_true_eq] at h
  obtain ⟨⟨⟨⟨⟨⟨⟨⟨h1, h2⟩, -⟩, -⟩, -⟩, -⟩, -⟩, -⟩, -⟩ := h
  exact ⟨h1.2, h1.1, h2.2, h2.1⟩

theorem areaOf_le {d : Nat} (h : d ≤ 1200) : areaOf d ≤ 1130976 := by
  have h2 : d ^ 2 ≤ 1200 ^ 2 := Nat.pow_le_pow_left h 2
  simp only [areaOf, roundHalfUp]
  omega

theorem vSegOf_le {a l : Nat} (ha : a ≤ 1130976) (hl : l ≤ 30000) : vSegOf a l ≤ 33929280 := by
  have h : a * l ≤ 1130976 * 30000 := Nat.mul_le_mul ha hl
  simp only [vSegOf, roundHalfUp]
  omega

section
variable {s : State}

theorem vSeg_le (hg : s.geometryHolds) {k : SegId} (hk : k.num < s.n) : (s.segment k).vSeg ≤ 33929280 := by
  obtain ⟨hv, -, hs⟩ := hg.1 k (isSegment_iff.2 hk)
  obtain ⟨hl, -, hd, -⟩ := settings_bounds hv
  rw [hs]
  exact vSegOf_le (areaOf_le hd) hl

/-- The sum over the segments of a span is at most three times the largest term. -/
theorem sumOver_le {b : Nat} {f : Segment → Nat} {up : StationId} {j : SpanId}
    (h : ∀ k, k.num ≤ j.num → f (s.segment k) ≤ b) : s.sumOver (coveredSegments up j) f ≤ 3 * b := by
  have hlen : (coveredSegments up j).length ≤ 3 := List.length_filter_le _ _
  refine (List.sum_le_card_nsmul _ b fun x hx => ?_).trans ?_
  · obtain ⟨k, hk, rfl⟩ := List.mem_map.1 hx
    simp only [coveredSegments, List.mem_filter, Bool.and_eq_true, decide_eq_true_eq] at hk
    exact h k hk.2.2
  · rw [List.length_map, smul_eq_mul]
    exact Nat.mul_le_mul_right b hlen

theorem vSpan_le (ht : s.topologyHolds) (hg : s.geometryHolds) {j : SpanId} {l : SpanLine}
    (hl : (s.span j).line = some l) : l.vSpan ≤ 101787840 := by
  obtain ⟨-, hj⟩ := line_bounds ht hl
  obtain ⟨-, rfl⟩ := line_of_topology ht hl
  exact sumOver_le (b := 33929280) fun k hk => vSeg_le hg (by omega)

theorem opensWithin_openFits (ht : s.topologyHolds) (hg : s.geometryHolds) (hb : s.banksHold) : OpensWithin openFits s := by
  intro j l cFill hl hc
  have hv := vSpan_le ht hg hl
  obtain ⟨hu, hj⟩ := line_bounds ht hl
  obtain ⟨-, hs, -, hm, -, -⟩ := hb.2 l.upstream (s.station l.upstream).active (isConfigured_iff.2 (by omega))
  simp only [within, Bool.and_eq_true, decide_eq_true_eq] at hs hm
  have hf : cFill ≤ 6000 := hc.trans (by omega)
  refine ⟨hv.trans (by decide), ?_⟩
  have hmass : l.vSpan * cFill * ((s.station l.upstream).banks.get (s.station l.upstream).active).rhoS ≤
      101787840 * 6000 * 4000 := Nat.mul_le_mul (Nat.mul_le_mul hv hf) hs.2
  simp only [massOf, maxU48]
  omega

theorem recordsHold_iff : s.latchHolds ∧ s.windowsHold ∧ s.rangesHold ↔ ∀ j, (s.span j).recordHolds := by
  simp only [State.latchHolds, State.windowsHold, State.rangesHold, Span.recordHolds, Span.windowHolds, forall_and]

end

/-! O56: the balance identity. -/

/-- What O56 keeps of a record: an absent one is CLOSED, and Q - D - V_span = O + in - out where it is not and the mark is
clear (R11, R83). -/
def Span.identityHolds (sp : Span) : Prop :=
  (sp.line = none → sp.state = .closed) ∧
    ∀ l, sp.state ≠ .closed → sp.mark = false → sp.line = some l →
      (sp.q : Int) - sp.d - l.vSpan = sp.o + sp.inflow - sp.outflow

section
variable {sp y : Span}

theorem satU48_of_not_over {x : Nat} (h : overU48 x = false) : satU48 x = x := by
  simp only [overU48, decide_eq_false_iff_not, not_lt] at h
  exact min_eq_left h

theorem satS48_of_not_over {x : Int} (h : overS48 x = false) : satS48 x = x := by
  simp only [overS48, Bool.or_eq_false_iff, decide_eq_false_iff_not, not_lt] at h
  simp only [satS48]
  omega

/-- An epoch start sets O to the excess and in and out to zero, and the mark where O is held at a limit. -/
theorem identity_epoch {l : SpanLine} (now : LineTime) (hm : (sp.epoch now).mark = false) (hl : sp.line = some l) :
    (sp.q : Int) - sp.d - l.vSpan = (sp.epoch now).o + (sp.epoch now).inflow - (sp.epoch now).outflow := by
  have ho : (sp.epoch now).o = sp.excess := satS48_of_not_over hm
  have he : sp.excess = (sp.q : Int) - sp.d - l.vSpan := by simp only [Span.excess, Span.vSpan, hl]
  rw [ho, he]
  simp [Span.epoch]

theorem identityHolds_epoch_derive (now : LineTime) (h : sp.line = none → sp.state = .closed) :
    (sp.epoch now).derive.identityHolds := ⟨h, fun _ _ hm hl => identity_epoch now hm hl⟩

theorem identityHolds_updated (h : sp.identityHolds) {d : DrainReport} {v : Nat} (m vel : Nat)
    (hd : d.drained + d.shortfall = v) : (sp.weighed d v m vel).identityHolds := by
  obtain ⟨ha, hi⟩ := h
  rw [weighed_eq]
  refine ⟨ha, fun l hs hm hl => ?_⟩
  simp only [Bool.or_eq_false_iff, decide_eq_false_iff_not, not_lt] at hm
  obtain ⟨⟨⟨⟨⟨hmark, hq⟩, -⟩, hD⟩, -⟩, hout⟩ := hm
  have h := hi l hs hmark hl
  simp only [satU48_of_not_over hD, satU48_of_not_over hout]
  omega

theorem identityHolds_takeInflow (h : sp.identityHolds) (v m vel : Nat) : (sp.takeInflow v m vel).identityHolds := by
  obtain ⟨ha, hi⟩ := h
  refine ⟨ha, fun l hs hm hl => ?_⟩
  simp only [Span.takeInflow, Bool.or_eq_false_iff] at hm ⊢
  obtain ⟨⟨⟨hmark, hq⟩, -⟩, hin⟩ := hm
  have h := hi l hs hmark hl
  simp only [satU48_of_not_over hq, satU48_of_not_over hin]
  omega

/-- Every change of a record keeps the identity. -/
theorem identityHolds_of_change {C : Nat → Nat → Prop} (h : SpanChange C sp y) (hs : sp.identityHolds) :
    y.identityHolds := by
  obtain ⟨ha, hi⟩ := hs
  cases h with
  | held e => exact ⟨ha, hi⟩
  | updated d v m vel t f taint hd hv =>
    have hw := identityHolds_updated ⟨ha, hi⟩ m vel hd
    rw [judged_eq]
    exact hw
  | filled v m vel hv => exact identityHolds_takeInflow ⟨ha, hi⟩ v m vel
  | filledIdle => exact ⟨ha, hi⟩
  | opened l now m hl hm => exact identityHolds_epoch_derive now fun h => absurd hl (by rw [show sp.line = none from h]; simp)
  | emptied line => exact ⟨fun _ => rfl, fun l hc => absurd rfl hc⟩
  | suspended ho =>
    refine ⟨fun hn => ?_, fun l _ hm hl => hi l (by simp [ho]) hm hl⟩
    rw [ha hn] at ho
    cases ho
  | resumed now hne => exact identityHolds_epoch_derive now fun h => absurd h hne
  | cleared => exact ⟨ha, hi⟩
  | restarted x now v hq hss hd hv => exact ⟨hv, fun _ _ hm hl => identity_epoch now hm hl⟩
  | redrawn l l' changed now hl hv =>
    unfold Span.redrawn
    simp only
    split
    · exact identityHolds_epoch_derive now fun h => by cases h
    · rename_i hc
      refine ⟨fun h => absurd h (by simp), fun l2 hs hm h2 => ?_⟩
      cases h2
      have hch : changed = false := by
        by_contra hne
        exact hc ⟨by simpa using hne, hs⟩
      rw [hv hch]
      exact hi l hs hm hl
  | placed line hn => exact ⟨fun _ => ha hn, fun l hs => absurd (ha hn) hs⟩

end

end Sys2Proof.Machine

open Sys2Proof Sys2Proof.Machine

/-- Settles O32, by the two cases of a push: a window with room, and a full one whose oldest entry leaves first. -/
theorem windowPushKeepsSums : Obligations.WindowPushKeepsSums := by
  unfold Obligations.WindowPushKeepsSums
  intro sp w hl hI hV hE
  refine ⟨fun h => ?_, fun h => ⟨?_, fun o ho => ?_⟩, pushEntry_windowHolds ⟨hl, hI, hV, hE⟩ w⟩
  · rw [pushEntry_of_room h]
    exact ⟨rfl, rfl, rfl, rfl⟩
  · rw [pushEntry_window, if_neg (by omega)]
  · cases hw : sp.window with
    | nil => simp [hw] at ho
    | cons a rest =>
      simp only [hw, List.head?_cons, Option.mem_def, Option.some.injEq] at ho
      subst ho
      rw [pushEntry_of_full hw h]
      rw [hw] at hV hE
      simp only [List.map_cons, List.sum_cons] at hV hE
      refine ⟨rfl, ?_, ?_⟩
      · show sp.wV - a.vOut + w.vOut + a.vOut = sp.wV + w.vOut
        omega
      · show sp.wE - a.e + w.e + a.e = sp.wE + w.e
        omega

/-- Settles O57: a record changes by one of the changes of `SpanChange`, and each keeps its form. -/
theorem stepKeepsSpanRecords : Obligations.StepKeepsSpanRecords := by
  unfold Obligations.StepKeepsSpanRecords
  intro s t ht hg hb hs hstep
  obtain ⟨pending, h⟩ := steps_of_step hstep
  have hmove := h.spansMove (C := openFits) ht hb.1 hg (opensWithin_openFits ht hg hb)
  exact recordsHold_iff.2 (hmove.keeps (fun _ _ hc hx => recordHolds_of_change hc hx) (recordsHold_iff.1 hs))

/-- Settles O56: an epoch start makes the identity hold, and every other change of `SpanChange` keeps it. -/
theorem stepKeepsBalanceIdentity : Obligations.StepKeepsBalanceIdentity := by
  unfold Obligations.StepKeepsBalanceIdentity
  intro s t ⟨ht, he, ha, hg, hi⟩ hstep
  obtain ⟨pending, h⟩ := steps_of_step hstep
  have hmove := h.spansMove (C := fun _ _ => True) ht he hg fun _ _ _ _ _ => trivial
  have hkept := hmove.keeps (fun _ _ hc hx => identityHolds_of_change hc hx) fun j => ⟨ha j, fun l hs hm hl => hi j l hs hm hl⟩
  exact ⟨h.topologyHolds ht, h.emptyUntilConfigured ht he, fun j => (hkept j).1, h.geometryHolds ht hg,
    fun j => (hkept j).2⟩

end

section
/-! O55: every step keeps each record of the pool on the free list or in one queue, parcels of a litre or more, and CLOSED spans
empty (R9, R11, R53 to R72). -/

namespace Sys2Proof.Machine

/-! The records of the pool, as a multiset. -/

/-- The indices of the free list and of every queue. -/
def State.records (s : State) : Multiset Nat :=
  (s.free : Multiset Nat) + indicesOf (s.queue .one) + indicesOf (s.queue .two) + indicesOf (s.queue .three)

section
variable {s t : State}

theorem poolWhole_iff : s.poolWhole ↔ s.records = (List.range 2048 : Multiset Nat) := by
  rw [State.poolWhole, ← Multiset.coe_eq_coe]
  rfl

theorem records_congr (hf : t.free = s.free) (hq : t.queues = s.queues) : t.records = s.records := by
  simp only [State.records, hf, queue_congr hq]

theorem records_setFree (x : List Nat) : (s.setFree x).records + (s.free : Multiset Nat) = s.records + x := by
  simp only [State.records, setFree_free, setFree_queue]
  abel

theorem records_setQueue (j : SpanId) (x : List Parcel) :
    (s.setQueue j x).records + (indicesOf (s.queue j) : Multiset Nat) = s.records + indicesOf x := by
  have hself := setQueue_queue_same s j x
  have hother := fun i (h : i ≠ j) => setQueue_queue_ne s j x h
  have hfree : (s.setQueue j x).free = s.free := rfl
  simp only [State.records, hfree]
  cases j with
  | one =>
    rw [hself, hother .two (by decide), hother .three (by decide)]
    abel
  | two =>
    rw [hself, hother .one (by decide), hother .three (by decide)]
    abel
  | three =>
    rw [hself, hother .one (by decide), hother .two (by decide)]
    abel

/-- Two queues and the free list replaced, the rest of the store as it stands. -/
theorem records_of_two {k j : SpanId} (h : k ≠ j) (hother : ∀ i, i ≠ j → i ≠ k → t.queue i = s.queue i) :
    t.records + ((s.free : Multiset Nat) + indicesOf (s.queue j) + indicesOf (s.queue k)) =
      s.records + ((t.free : Multiset Nat) + indicesOf (t.queue j) + indicesOf (t.queue k)) := by
  have hq : t.queues = (((s.setFree t.free).setQueue j (t.queue j)).setQueue k (t.queue k)).queues := by
    refine Trio.ext_get fun i => ?_
    change t.queue i = (((s.setFree t.free).setQueue j (t.queue j)).setQueue k (t.queue k)).queue i
    by_cases hk : i = k
    · subst hk
      rw [setQueue_queue_same]
    · rw [setQueue_queue_ne _ _ _ hk]
      by_cases hj : i = j
      · subst hj
        rw [setQueue_queue_same]
      · rw [setQueue_queue_ne _ _ _ hj, hother i hj hk]
        rfl
  have h1 := records_setFree (s := s) t.free
  have h2 := records_setQueue (s := s.setFree t.free) j (t.queue j)
  have h3 := records_setQueue (s := (s.setFree t.free).setQueue j (t.queue j)) k (t.queue k)
  rw [setFree_queue] at h2
  rw [setQueue_queue_ne _ _ _ h, setFree_queue] at h3
  rw [records_congr (s := ((s.setFree t.free).setQueue j (t.queue j)).setQueue k (t.queue k)) (t := t) rfl hq]
  calc _ = (((s.setFree t.free).setQueue j (t.queue j)).setQueue k (t.queue k)).records +
        (indicesOf (s.queue k) : Multiset Nat) + ((s.free : Multiset Nat) + indicesOf (s.queue j)) := by abel
    _ = ((s.setFree t.free).setQueue j (t.queue j)).records + indicesOf (s.queue j) + (s.free : Multiset Nat) +
        indicesOf (t.queue k) := by rw [h3]; abel
    _ = (s.setFree t.free).records + (s.free : Multiset Nat) + indicesOf (t.queue j) + indicesOf (t.queue k) := by
        rw [h2]; abel
    _ = _ := by rw [h1]; abel

/-- Two queues and the free list that hold the records they held. -/
theorem records_eq_of_two {k j : SpanId} (h : k ≠ j) (hother : ∀ i, i ≠ j → i ≠ k → t.queue i = s.queue i)
    (hsum : (t.free : Multiset Nat) + indicesOf (t.queue j) + indicesOf (t.queue k) =
      (s.free : Multiset Nat) + indicesOf (s.queue j) + indicesOf (s.queue k)) : t.records = s.records := by
  have := records_of_two h hother
  rw [hsum] at this
  exact add_right_cancel this

/-- One queue and the free list that hold the records they held. -/
theorem records_eq_of_one {j : SpanId} (hother : ∀ i, i ≠ j → t.queue i = s.queue i)
    (hsum : (t.free : Multiset Nat) + indicesOf (t.queue j) = (s.free : Multiset Nat) + indicesOf (s.queue j)) :
    t.records = s.records := by
  obtain ⟨k, hk⟩ : ∃ k : SegId, k ≠ j := by
    cases j
    · exact ⟨.two, by decide⟩
    · exact ⟨.one, by decide⟩
    · exact ⟨.one, by decide⟩
  refine records_eq_of_two hk (fun i hi _ => hother i hi) ?_
  rw [hsum, hother k hk]

/-! Allocation (R57 to R60). -/

theorem length_le_fullest (s : State) (j : SpanId) : (s.queue j).length ≤ (s.queue s.fullest).length := by
  unfold State.fullest
  split
  · cases j <;> omega
  · split
    · cases j <;> omega
    · cases j <;> omega

/-- With every record in a queue, the fullest queue has two parcels to join (R58). -/
theorem fullest_has_two (h : s.poolWhole) (hf : s.free = []) :
    ∃ a b rest, s.queue s.fullest = a :: b :: rest := by
  obtain h2 | h2 := two_or_fewer (s.queue s.fullest)
  · exact h2
  · exfalso
    have hc := congrArg Multiset.card (poolWhole_iff.1 h)
    simp only [State.records, hf, indicesOf, Multiset.coe_nil, zero_add, Multiset.card_add, Multiset.coe_card,
      List.length_map, List.length_range] at hc
    have h1 := length_le_fullest s .one
    have h3 := length_le_fullest s .two
    have h4 := length_le_fullest s .three
    omega

/-- From an empty free list, an allocation takes the second record of the two that its reclaim joins (R57 to R59). -/
theorem allocate_of_empty {a b : Parcel} {rest : List Parcel} (hf : s.free = []) (hq : s.queue s.fullest = a :: b :: rest) :
    s.allocate.1 = b.index ∧ s.allocate.2 = s.reclaim.setFree [] := by
  have hr := (reclaim_store s a b rest hq).1
  rw [hf, List.nil_append] at hr
  have ha : s.allocate = s.reclaim.takeFree := by rw [State.allocate, hf]; rfl
  rw [ha, State.takeFree, hr]
  exact ⟨rfl, rfl⟩

/-- What an allocation makes of the store, by whether a record is free (R57 to R59). -/
theorem allocate_store_cases (h : s.poolWhole) :
    (∃ i rest, s.free = i :: rest ∧ s.allocate.1 = i ∧ s.allocate.2.free = rest ∧
      ∀ j, s.allocate.2.queue j = s.queue j) ∨
    ∃ a b rest, s.free = [] ∧ s.queue s.fullest = a :: b :: rest ∧ s.allocate.1 = b.index ∧ s.allocate.2.free = [] ∧
      s.allocate.2.queue s.fullest = a.join b :: rest ∧ ∀ j, j ≠ s.fullest → s.allocate.2.queue j = s.queue j := by
  cases hf : s.free with
  | cons i rest =>
    rw [allocate_of_free s i rest hf]
    exact .inl ⟨i, rest, rfl, rfl, rfl, fun _ => rfl⟩
  | nil =>
    obtain ⟨a, b, rest, hq⟩ := fullest_has_two h hf
    obtain ⟨hi, hs⟩ := allocate_of_empty hf hq
    obtain ⟨-, hsame, hother⟩ := reclaim_store s a b rest hq
    rw [hi, hs]
    exact .inr ⟨a, b, rest, rfl, hq, rfl, rfl, hsame, hother⟩

/-- The record allocated and those left are the records of the pool. -/
theorem allocate_records (h : s.poolWhole) : s.allocate.1 ::ₘ s.allocate.2.records = s.records := by
  rw [← Multiset.singleton_add]
  obtain ⟨i, rest, hf, hi, hfree, hq⟩ | ⟨a, b, rest, hf, hq, hi, hfree, hsame, hother⟩ := allocate_store_cases h
  · simp only [State.records, hf, hi, hfree, hq, ← Multiset.cons_coe, ← Multiset.singleton_add]
    abel
  · obtain ⟨k, hk⟩ : ∃ k : SegId, k ≠ s.fullest := by
      generalize s.fullest = j
      cases j
      · exact ⟨.two, by decide⟩
      · exact ⟨.one, by decide⟩
      · exact ⟨.one, by decide⟩
    have h2 := records_of_two (s := s) (t := s.allocate.2) hk fun i hi _ => hother i hi
    rw [hf, hfree, hq, hsame, hother k hk] at h2
    rw [hi]
    have hcons : (indicesOf (a :: b :: rest) : Multiset Nat) = {b.index} + indicesOf (a.join b :: rest) := by
      simp only [indicesOf, List.map_cons, ← Multiset.cons_coe, ← Multiset.singleton_add, Parcel.join]
      abel
    rw [hcons] at h2
    refine add_right_cancel (b := (indicesOf (a.join b :: rest) : Multiset Nat) + indicesOf (s.queue k)) ?_
    calc _ = {b.index} + (s.allocate.2.records + indicesOf (a.join b :: rest) + indicesOf (s.queue k)) := by abel
      _ = s.allocate.2.records + (([] : List Nat) + ({b.index} + indicesOf (a.join b :: rest)) + indicesOf (s.queue k)) := by
          rw [Multiset.coe_nil]; abel
      _ = s.records + (([] : List Nat) + indicesOf (a.join b :: rest) + indicesOf (s.queue k)) := h2
      _ = _ := by rw [Multiset.coe_nil]; abel

/-- An allocation empties no queue and fills none. -/
theorem allocate_queue_eq_nil (h : s.poolWhole) (j : SpanId) : s.allocate.2.queue j = [] ↔ s.queue j = [] := by
  obtain ⟨i, rest, -, -, -, hq⟩ | ⟨a, b, rest, -, hq, -, -, hsame, hother⟩ := allocate_store_cases h
  · rw [hq]
  · by_cases hj : j = s.fullest
    · rw [hj, hq, hsame]
      simp
    · rw [hother j hj]

theorem join_volume_pos {a b : Parcel} (ha : 1 ≤ a.volume) : 1 ≤ (a.join b).volume :=
  le_min (Nat.le_add_right_of_le ha) (by decide)

theorem allocate_parcelsHold (h : s.poolWhole) (hp : s.parcelsHold) : s.allocate.2.parcelsHold := by
  intro j p hj
  obtain ⟨i, rest, -, -, -, hq⟩ | ⟨a, b, rest, -, hq, -, -, hsame, hother⟩ := allocate_store_cases h
  · rw [hq] at hj
    exact hp j p hj
  · by_cases hf : j = s.fullest
    · rw [hf, hsame, List.mem_cons] at hj
      obtain rfl | hj := hj
      · exact join_volume_pos (hp s.fullest a (by simp [hq]))
      · exact hp s.fullest p (by simp [hq, hj])
    · rw [hother j hf] at hj
      exact hp j p hj

end

/-! A drain and a cut: what they do to the records of a queue (R63 to R71). -/

@[simp] theorem volumeIn_cons (p : Parcel) (ps : List Parcel) : volumeIn (p :: ps) = p.volume + volumeIn ps := rfl

@[simp] theorem volumeIn_append (ps qs : List Parcel) : volumeIn (ps ++ qs) = volumeIn ps + volumeIn qs := by
  simp [volumeIn]

@[simp] theorem indicesOf_append (ps qs : List Parcel) : indicesOf (ps ++ qs) = indicesOf ps ++ indicesOf qs := by
  simp [indicesOf]

/-- The records drained whole and those that remain are the queue's, in order. -/
theorem drain_indices (r : Nat) (ps : List Parcel) :
    (drainQueue r ps).freed ++ indicesOf (drainQueue r ps).queue = indicesOf ps := by
  induction ps generalizing r with
  | nil => rfl
  | cons p ps ih =>
    simp only [drainQueue]
    split
    · rfl
    · split
      · exact congrArg (p.index :: ·) (ih _)
      · rfl

/-- Parcels of a litre or more remain so. -/
theorem drain_volume_pos (r : Nat) {ps : List Parcel} (h : ∀ p ∈ ps, 1 ≤ p.volume) :
    ∀ p ∈ (drainQueue r ps).queue, 1 ≤ p.volume := by
  induction ps generalizing r with
  | nil => exact h
  | cons p ps ih =>
    simp only [drainQueue]
    split
    · exact h
    · split
      · exact ih _ fun x hx => h x (List.mem_cons_of_mem _ hx)
      · intro x hx
        obtain rfl | hx := List.mem_cons.1 hx
        · show 1 ≤ p.volume - r
          omega
        · exact h x (List.mem_cons_of_mem _ hx)

/-- Where the walk meets no straddling parcel: the parcels that stay are within the target, and fill it where any goes. -/
theorem cutWalk_none {r : Nat} {ps stay go : List Parcel} (h : cutWalk r ps = (stay, none, go)) :
    ps = stay ++ go ∧ volumeIn stay ≤ r ∧ (go ≠ [] → volumeIn stay = r) := by
  induction ps generalizing r stay with
  | nil =>
    cases h
    exact ⟨rfl, Nat.zero_le _, fun hne => absurd rfl hne⟩
  | cons p ps ih =>
    simp only [cutWalk] at h
    split at h
    · rename_i hr
      cases h
      exact ⟨rfl, Nat.zero_le _, fun _ => hr.symm⟩
    · split at h
      · obtain ⟨rfl, h2⟩ : p :: (cutWalk (r - p.volume) ps).1 = stay ∧ (cutWalk (r - p.volume) ps).2 = (none, go) := by
          simpa using h
        have hrest : cutWalk (r - p.volume) ps = ((cutWalk (r - p.volume) ps).1, none, go) := Prod.ext rfl h2
        obtain ⟨hps, hle, hfill⟩ := ih hrest
        rw [volumeIn_cons]
        exact ⟨congrArg _ hps, by omega, fun hne => by have := hfill hne; omega⟩
      · cases h

/-- Where it meets one: that parcel stands between those that stay and those that go, and the cut lies strictly inside it. -/
theorem cutWalk_some {r a : Nat} {p : Parcel} {ps stay go : List Parcel} (h : cutWalk r ps = (stay, some (p, a), go)) :
    ps = stay ++ p :: go ∧ 0 < a ∧ a < p.volume ∧ volumeIn stay + a = r := by
  induction ps generalizing r stay with
  | nil => cases h
  | cons q ps ih =>
    simp only [cutWalk] at h
    split at h
    · cases h
    · split at h
      · obtain ⟨rfl, h2⟩ : q :: (cutWalk (r - q.volume) ps).1 = stay ∧
            (cutWalk (r - q.volume) ps).2 = (some (p, a), go) := by simpa using h
        have hrest : cutWalk (r - q.volume) ps = ((cutWalk (r - q.volume) ps).1, some (p, a), go) := Prod.ext rfl h2
        obtain ⟨hps, ha, hap, hsum⟩ := ih hrest
        rw [volumeIn_cons]
        exact ⟨congrArg _ hps, ha, hap, by omega⟩
      · cases h
        exact ⟨rfl, by omega, by omega, Nat.zero_add _⟩

/-! The store's invariant of a state, span records aside but for which are CLOSED. -/

/-- The pool whole, every parcel of a litre or more, and CLOSED spans empty. -/
structure State.stocked (s : State) : Prop where
  pool : s.poolWhole
  parcels : s.parcelsHold
  closed : s.closedIsEmpty

section
variable {s t : State}

theorem stocked_of_store (h : s.stocked) (hf : t.free = s.free) (hq : t.queues = s.queues)
    (hc : ∀ j, (t.span j).state = .closed → (s.span j).state = .closed ∨ s.queue j = []) : t.stocked := by
  refine ⟨poolWhole_iff.2 ((records_congr hf hq).trans (poolWhole_iff.1 h.pool)), fun j => ?_, fun j hj => ?_⟩
  · rw [queue_congr hq]
    exact h.parcels j
  · rw [queue_congr hq]
    exact (hc j hj).elim (h.closed j) id

theorem stocked_congr (h : s.stocked) (hf : t.free = s.free) (hq : t.queues = s.queues)
    (hs : ∀ j, (t.span j).state = (s.span j).state) : t.stocked :=
  stocked_of_store h hf hq fun j hj => .inl (by rwa [hs] at hj)

theorem SamplesOnly.stocked (h : SamplesOnly s t) (hs : s.stocked) : t.stocked := by
  obtain ⟨-, -, -, -, hf, hq, -⟩ := h.same
  exact stocked_congr hs hf hq fun j => by rw [h.span_eq]

theorem NoticesOnly.stocked (h : NoticesOnly s t) (hs : s.stocked) : t.stocked := h.samplesOnly.stocked hs

theorem stocked_setSpan (h : s.stocked) {j : SpanId} {x : Span} (hx : x.state = .closed → s.queue j = []) :
    (s.setSpan j x).stocked := by
  refine stocked_of_store h rfl rfl fun i hi => ?_
  by_cases hij : i = j
  · subst hij
    rw [setSpan_span_same] at hi
    exact .inr (hx hi)
  · rw [setSpan_span_ne _ _ _ hij] at hi
    exact .inl hi

/-- A span record replaced by one in the same state. -/
theorem stocked_setSpan_same (h : s.stocked) {j : SpanId} {x : Span} (hx : x.state = (s.span j).state) :
    (s.setSpan j x).stocked :=
  stocked_setSpan h fun hc => h.closed j (hx ▸ hc)

/-- The store after an update of the queue of one span and of the free list, to a span record in any state: the records are
those held, and a record in a CLOSED state has an empty queue. -/
theorem stocked_setQueue (h : s.stocked) {j : SpanId} {x : Span} {free : List Nat} {ps : List Parcel}
    (hr : (free : Multiset Nat) + indicesOf ps = (s.free : Multiset Nat) + indicesOf (s.queue j))
    (hv : ∀ p ∈ ps, 1 ≤ p.volume) (hx : x.state = .closed → ps = []) :
    (((s.setQueue j ps).setFree free).setSpan j x).stocked := by
  have hsame : (((s.setQueue j ps).setFree free).setSpan j x).queue j = ps := setQueue_queue_same _ _ _
  have hother : ∀ i, i ≠ j → (((s.setQueue j ps).setFree free).setSpan j x).queue i = s.queue i :=
    fun i hi => setQueue_queue_ne _ _ _ hi
  refine ⟨poolWhole_iff.2 ((records_eq_of_one hother ?_).trans (poolWhole_iff.1 h.pool)), fun i => ?_, fun i hc => ?_⟩
  · rw [hsame]
    exact hr
  · by_cases hi : i = j
    · subst hi
      rw [hsame]
      exact hv
    · rw [hother i hi]
      exact h.parcels i
  · by_cases hi : i = j
    · subst hi
      rw [setSpan_span_same] at hc
      rw [hsame]
      exact hx hc
    · rw [setSpan_span_ne _ _ _ hi] at hc
      rw [hother i hi]
      exact h.closed i hc

end

end Sys2Proof.Machine

end

section
/-! The effect of a service change on the spans, and what every command keeps of the store (R7, R14 to R22, R53). -/

namespace Sys2Proof.Machine

/-! The effect of a service change on the spans. -/

/-- What a service change makes of the state u in which it is recorded and told: nothing, the span of a line end suspended or
resumed, or an interior station's spans merged or split, with the lines that the topology gives them (R7). -/
inductive ServiceEffect (s u : State) (st : StationId) : State → Prop
  | none : ServiceEffect s u st u
  | suspended (j : SpanId) : ServiceEffect s u st (u.suspendSpan j)
  | resumed (j : SpanId) : ServiceEffect s u st (u.resumeSpan j)
  | merged (k j : SpanId) (lk lj l : SpanLine) (hkj : k ≠ j) (hst : k.downStation = st)
      (hlk : (s.span k).line = some lk) (hlj : (s.span j).line = some lj) (hu : lj.upstream = st)
      (hk : u.lineOf k = Option.none) (hj : u.lineOf j = some l) (hl : l.upstream = lk.upstream)
      (hother : ∀ i, i ≠ j → i ≠ k → u.lineOf i = (u.span i).line) :
      ServiceEffect s u st
        (if (u.span k).state = .closed ∨ (u.span j).state = .closed then u.mergeClosed k j else u.mergeOpen k j)
  | split (k j : SpanId) (l lk lj : SpanLine) (hkj : k ≠ j) (hst : k.downStation = st)
      (hlk : (s.span k).line = Option.none) (hlj : (s.span j).line = some l) (hk : u.lineOf k = some lk)
      (hj : u.lineOf j = some lj) (hu : lj.upstream = st) (hl : lk.upstream = l.upstream)
      (hother : ∀ i, i ≠ j → i ≠ k → u.lineOf i = (u.span i).line) :
      ServiceEffect s u st (if (u.span j).state = .closed then u.splitClosed k j else u.splitOpen k j)

section
variable {s t : State}

theorem changeService_effect (ht : s.topologyHolds) (st : StationId) (v : ServiceState) (e : Option LineTime) :
    ServiceEffect s (s.serviceTold st v e) st (s.changeService st v e) := by
  obtain ⟨-, hn, -⟩ := serviceTold_same s st v e
  have hlines : ∀ j, ((s.serviceTold st v e).span j).line = (s.span j).line := fun j => by rw [serviceTold_span]
  rw [changeService_eq]
  split
  · rename_i hleave
    have hmoved := serviceTold_moved s st v e (by rw [hleave.1]; simpa using hleave.2)
    unfold State.stationLeft
    split
    · split
      · exact .none
      · exact .suspended _
    · obtain ⟨he, -⟩ | ⟨k, j, hk, hj, he⟩ := mergeAt_cases (s.serviceTold st v e) st <;> rw [he]
      · exact .none
      · rw [spanFedBy_congr hlines] at hj
        obtain ⟨lj, hlj, hu, hkst, -, h1, hkj⟩ := interior_of_fed ht hk hj
        have hke : s.isSpanEnd k = true := by rw [isSpanEnd_interior hkst h1, hleave.1]
        have hlk := line_of_isSpanEnd ht hke
        obtain ⟨hnk, ⟨l, hl, hup⟩, hother⟩ := lineOf_of_left ht hmoved hleave.1 h1 hkst hlk hlj hu
        exact .merged k j _ lj l hkj hkst hlk hlj hu hnk hl hup fun i hij hik => by rw [hother i hij hik, hlines, ht.2]
  · split
    · rename_i hreturn
      have hmoved := serviceTold_moved s st v e (by rw [hreturn.1, hreturn.2]; rfl)
      unfold State.stationReturned
      split
      · split
        · exact .none
        · exact .resumed _
      · rename_i hend
        obtain ⟨he, -⟩ | ⟨k, j, hk, hj, he⟩ := splitAt_cases (s.serviceTold st v e) st <;> rw [he]
        · exact .none
        · rw [spanContaining_congr hlines] at hj
          obtain ⟨l, hl, hu, hkj⟩ := spanContaining_some hj
          have hkst := (endingAt_eq_some_iff.1 hk).symm
          have hkn : st.val = k.num := by rw [← hkst, downStation_val]
          have hb := line_bounds ht hl
          rw [isLineEnd_iff, hn] at hend
          have h1 : st.val + 1 < s.n := by omega
          have hke : s.isSpanEnd k = false := by rw [isSpanEnd_interior hkst h1, hreturn.1]
          have hne : k ≠ j := by
            rintro rfl
            rw [(line_of_topology ht hl).1] at hke
            cases hke
          have hlt : k.num < j.num := lt_of_le_of_ne hkj fun h => hne (SegId.eq_of_num_eq h)
          obtain ⟨⟨lk, hlk, huk⟩, ⟨lj, hlj, huj⟩, hother⟩ := lineOf_of_returned ht hmoved hreturn.1 h1 hkst hl hu hlt
          have hnone : (s.span k).line = none := by rw [ht.2 k, State.lineOf, if_neg (by simp [hke])]
          exact .split k j l lk lj hne hkst hnone hl hlk hlj huj huk fun i hij hik => by
            rw [hother i hij hik, hlines, ht.2]
    · exact .none

/-! What the engine and the span table keep of the store. -/

theorem stateOn_some_ne_closed (j : SpanId) (l : SpanLine) : s.stateOn j (some l) ≠ .closed := by
  rw [State.stateOn]
  split <;> simp

theorem stocked_balanceUpdate (h : s.stocked) {j : SpanId} (l : SpanLine) (c : Conversion) (m : Nat)
    (ho : (s.span j).state = .opened) : (s.balanceUpdate j l c m).stocked := by
  refine (balanceUpdate_samplesOnly s j l c m).stocked (stocked_setQueue h ?_ (drain_volume_pos _ (h.parcels j)) ?_)
  · rw [← drain_indices c.v (s.queue j)]
    simp only [← Multiset.coe_add]
    abel
  · intro hc
    have hs : (((s.span j).weighed (drainQueue c.v (s.queue j)) c.v m (velocity c.v (s.segment l.last).area c.tC)).judged
        l.thr c.flags (drainQueue c.v (s.queue j)).taint).state = (s.span j).state := by rw [judged_eq, weighed_eq]
    rw [hs, ho] at hc
    cases hc

/-- A parcel of a litre or more in an allocated record joins a queue, its span in a state other than CLOSED. -/
theorem stocked_append (h : s.stocked) {j : SpanId} {p : Parcel} {x : Span} (hp : p.index = s.allocate.1)
    (hv : 1 ≤ p.volume) (hx : x.state ≠ .closed) : ((s.allocate.2.append j p).setSpan j x).stocked := by
  have hsame : ((s.allocate.2.append j p).setSpan j x).queue j = s.allocate.2.queue j ++ [p] := setQueue_queue_same _ _ _
  have hother : ∀ i, i ≠ j → ((s.allocate.2.append j p).setSpan j x).queue i = s.allocate.2.queue i :=
    fun i hi => setQueue_queue_ne _ _ _ hi
  refine ⟨poolWhole_iff.2 (Eq.trans ?_ (poolWhole_iff.1 h.pool)), fun i q hq => ?_, fun i hc => ?_⟩
  · have hr : ((s.allocate.2.append j p).setSpan j x).records = (s.allocate.2.append j p).records := records_congr rfl rfl
    have hq := records_setQueue (s := s.allocate.2) j (s.allocate.2.queue j ++ [p])
    rw [hr, ← allocate_records h.pool, ← hp, ← Multiset.singleton_add]
    refine add_right_cancel (hq.trans ?_)
    rw [indicesOf_append, ← Multiset.coe_add, show indicesOf [p] = [p.index] from rfl, Multiset.coe_singleton]
    abel
  · by_cases hi : i = j
    · subst hi
      rw [hsame, List.mem_append, List.mem_singleton] at hq
      obtain hq | rfl := hq
      · exact allocate_parcelsHold h.pool h.parcels i q hq
      · exact hv
    · rw [hother i hi] at hq
      exact allocate_parcelsHold h.pool h.parcels i q hq
  · by_cases hi : i = j
    · subst hi
      rw [setSpan_span_same] at hc
      exact absurd hc hx
    · rw [setSpan_span_ne _ _ _ hi] at hc
      rw [hother i hi, allocate_queue_eq_nil h.pool]
      exact h.closed i (by rw [← hc]; exact congrArg Span.state ((storeOnly_allocate s).span_eq i).symm)

theorem stocked_inflowTo (h : s.stocked) {j : SpanId} (l : SpanLine) (st : StationId) (b : BankId) (c : Conversion)
    (m : Nat) (ho : (s.span j).state = .opened) : (s.inflowTo j l st b c m).stocked := by
  by_cases hv : c.v = 0
  · rw [inflowTo_idle s j l st b c m hv]
    exact stocked_setSpan_same h rfl
  · refine (inflowTo_samplesOnly s j l st b c m hv).stocked (stocked_append h rfl (Nat.one_le_iff_ne_zero.2 hv) ?_)
    show (s.allocate.2.span j).state ≠ .closed
    rw [(storeOnly_allocate s).span_eq, ho]
    simp

theorem stocked_applyGrant (h : s.stocked) (p : PortId) (r : Reading) (c : Conversion) (m : Nat) :
    (s.applyGrant p r c m).stocked := by
  have hout : ∀ u : State, u.stocked → (u.outflowSide p c m).stocked := fun u hu => by
    obtain he | ⟨j, l, -, -, ho, he⟩ := outflowSide_cases u p c m <;> rw [he]
    · exact hu
    · exact stocked_balanceUpdate hu l c m ho
  have hin : ∀ u : State, u.stocked → (u.inflowSide p r.bank c m).stocked := fun u hu => by
    obtain he | ⟨j, l, -, -, ho, he⟩ := inflowSide_cases u p r.bank c m <;> rw [he]
    · exact hu
    · exact stocked_inflowTo hu l p r.bank c m ho
  have h1 : State.stocked { s with lastGranted := some p } := stocked_congr h rfl rfl fun _ => rfl
  have h2 := hin _ (hout _ h1)
  exact (convertHead_samplesOnly _ p).stocked (stocked_congr h2 rfl rfl fun _ => rfl)

theorem stocked_openSpan (h : s.stocked) {j : SpanId} {l : SpanLine} (cFill : Nat) (hv : 1 ≤ l.vSpan) :
    (s.openSpan j l cFill).stocked := by
  obtain ⟨p, hp, hn⟩ := openSpan_noticesOnly s j l cFill
  refine hn.stocked (stocked_append h ?_ ?_ ?_)
  · rw [hp]; rfl
  · rw [hp]; exact hv
  · intro hc
    cases hc

theorem stocked_release (h : s.stocked) (j : SpanId) {x : Span} : ((s.release j).setSpan j x).stocked := by
  have he : (s.release j).setSpan j x =
      ((s.setQueue j []).setFree (s.free ++ indicesOf (s.queue j))).setSpan j x := rfl
  rw [he]
  refine stocked_setQueue h ?_ (fun _ hp => absurd hp List.not_mem_nil) fun _ => rfl
  rw [← Multiset.coe_add, show indicesOf [] = [] from rfl, Multiset.coe_nil, add_zero]

theorem stocked_closeSpan (h : s.stocked) (j : SpanId) : (s.closeSpan j).stocked :=
  (closeSpan_noticesOnly s j).stocked (stocked_release h j)

theorem stocked_suspendSpan (h : s.stocked) (j : SpanId) : (s.suspendSpan j).stocked := by
  by_cases ho : (s.span j).state = .opened
  · exact (suspendSpan_noticesOnly s j ho).stocked (stocked_setSpan h fun hc => by cases hc)
  · rw [State.suspendSpan, if_neg ho]
    exact h

theorem stocked_resumeSpan (h : s.stocked) (j : SpanId) : (s.resumeSpan j).stocked := by
  cases hl : (s.span j).line with
  | none =>
    rw [State.resumeSpan, hl]
    exact h
  | some l =>
    by_cases hc : (s.span j).state = .suspended ∧ s.bothEndsIn j l = true
    · exact (resumeSpan_noticesOnly s j l hl hc.1 hc.2).stocked (stocked_setSpan h fun h => by cases h)
    · simp only [State.resumeSpan, hl, if_neg hc]
      exact h

/-- Two queues and the free list that hold the records they held, every other span as it stands. -/
theorem stocked_of_two (h : s.stocked) {k j : SpanId} (hother : ∀ i, i ≠ j → i ≠ k → t.queue i = s.queue i)
    (hspan : ∀ i, i ≠ j → i ≠ k → (t.span i).state = (s.span i).state) (hr : t.records = s.records)
    (hvk : ∀ p ∈ t.queue k, 1 ≤ p.volume) (hvj : ∀ p ∈ t.queue j, 1 ≤ p.volume)
    (hck : (t.span k).state = .closed → t.queue k = []) (hcj : (t.span j).state = .closed → t.queue j = []) :
    t.stocked := by
  refine ⟨poolWhole_iff.2 (hr.trans (poolWhole_iff.1 h.pool)), fun i => ?_, fun i hc => ?_⟩
  · by_cases hj : i = j
    · exact hj ▸ hvj
    · by_cases hk : i = k
      · exact hk ▸ hvk
      · rw [hother i hj hk]
        exact h.parcels i
  · by_cases hj : i = j
    · exact hj ▸ hcj (hj ▸ hc)
    · by_cases hk : i = k
      · exact hk ▸ hck (hk ▸ hc)
      · rw [hother i hj hk]
        exact h.closed i (by rw [← hspan i hj hk, hc])

theorem stocked_mergeOpen (h : s.stocked) {k j : SpanId} (hkj : k ≠ j) {l : SpanLine} (hl : s.lineOf j = some l) :
    (s.mergeOpen k j).stocked := by
  obtain ⟨hj, hk, hother, hf, -⟩ := mergeOpen_store (s := s) hkj
  refine stocked_of_two h hother (fun i hij hik => ?_) (records_eq_of_two hkj hother ?_) ?_ ?_ (fun _ => hk) ?_
  · rw [mergeOpen_span, if_neg hij, if_neg hik]
  · rw [hj, hk, hf, indicesOf_append, ← Multiset.coe_add, show indicesOf [] = [] from rfl, Multiset.coe_nil]
    abel
  · rw [hk]
    exact fun _ hp => absurd hp List.not_mem_nil
  · intro p hp
    rw [hj, List.mem_append] at hp
    exact hp.elim (h.parcels j p) (h.parcels k p)
  · intro hc
    rw [mergeOpen_span, if_pos rfl, hl] at hc
    exact absurd hc (stateOn_some_ne_closed j l)

theorem stocked_mergeClosed (h : s.stocked) {k j : SpanId} (hkj : k ≠ j) : (s.mergeClosed k j).stocked := by
  obtain ⟨hj, hk, hf, -, hother⟩ := mergeClosed_store hkj (h.closed k) (h.closed j)
  refine stocked_of_two h hother (fun i hij hik => ?_) (records_eq_of_two hkj hother ?_) ?_ ?_ (fun _ => hk)
    (fun _ => hj)
  · rw [mergeClosed_span, if_neg hij, if_neg hik]
  · rw [hj, hk, hf, ← Multiset.coe_add, ← Multiset.coe_add, show indicesOf [] = [] from rfl, Multiset.coe_nil]
    abel
  · rw [hk]
    exact fun _ hp => absurd hp List.not_mem_nil
  · rw [hj]
    exact fun _ hp => absurd hp List.not_mem_nil

theorem stocked_splitClosed (h : s.stocked) {k j : SpanId} (hk : (s.span k).state = .closed) :
    (s.splitClosed k j).stocked := by
  obtain ⟨hf, hq, -⟩ := splitClosed_store (s := s) k j
  refine stocked_of_store h hf hq fun i hc => .inl ?_
  rw [splitClosed_span] at hc
  by_cases hik : i = k
  · rw [hik, hk]
  · rwa [if_neg hik] at hc

/-- The floor of a part's share is no more than the whole (R64, R71). -/
theorem cut_solids_le (p : Parcel) {a : Nat} (h : a ≤ p.volume) : p.solids * a / p.volume ≤ p.solids :=
  Nat.div_le_of_le_mul (by rw [Nat.mul_comm p.volume]; exact Nat.mul_le_mul_left _ h)

/-- The state whose queue split-at-volume cuts: that of the allocation for a straddling parcel, if there is one (R70). -/
def State.cutFrom (s : State) (j : SpanId) (r : Nat) : State :=
  if (cutWalk r (s.queue j)).2.1 = none then s else s.allocate.2

theorem splitQueue_of_none {k j : SpanId} {r : Nat} (h : (cutWalk r (s.queue j)).2.1 = none) : s.splitQueue k j r =
    (s.setQueue j (cutWalk r (s.queue j)).1).setQueue k (cutWalk r (s.queue j)).2.2 := by
  have he : cutWalk r (s.queue j) = ((cutWalk r (s.queue j)).1, none, (cutWalk r (s.queue j)).2.2) :=
    Prod.ext rfl (Prod.ext h rfl)
  unfold State.splitQueue
  rw [he]

theorem splitQueue_of_straddled {k j : SpanId} {r : Nat} (h : (cutWalk r (s.queue j)).2.1 ≠ none) : s.splitQueue k j r =
    match cutWalk r (s.allocate.2.queue j) with
    | (stay, some (p, a), go) =>
      (s.allocate.2.setQueue j (stay ++ [p.downPart a])).setQueue k (p.upPart a s.allocate.1 :: go)
    | (stay, none, go) => ((s.allocate.2.setQueue j stay).setQueue k go).setFree (s.allocate.1 :: s.allocate.2.free) := by
  obtain ⟨x, hx⟩ := Option.ne_none_iff_exists'.1 h
  have he : cutWalk r (s.queue j) = ((cutWalk r (s.queue j)).1, some x, (cutWalk r (s.queue j)).2.2) :=
    Prod.ext rfl (Prod.ext hx rfl)
  unfold State.splitQueue
  rw [he] <;> rfl

/-- The two queues and the free list after split-at-volume, by the walk of the queue that it cuts (R70, R71). -/
theorem splitQueue_cases {k j : SpanId} (hkj : k ≠ j) (r : Nat) :
    (∀ i, i ≠ j → i ≠ k → (s.splitQueue k j r).queue i = (s.cutFrom j r).queue i) ∧
    ((∃ stay go, cutWalk r ((s.cutFrom j r).queue j) = (stay, none, go) ∧ (s.splitQueue k j r).queue j = stay ∧
        (s.splitQueue k j r).queue k = go ∧
        ((cutWalk r (s.queue j)).2.1 = none ∧ (s.splitQueue k j r).free = (s.cutFrom j r).free ∨
          (cutWalk r (s.queue j)).2.1 ≠ none ∧
            (s.splitQueue k j r).free = s.allocate.1 :: (s.cutFrom j r).free)) ∨
      ∃ stay p a go, cutWalk r ((s.cutFrom j r).queue j) = (stay, some (p, a), go) ∧
        (s.splitQueue k j r).queue j = stay ++ [p.downPart a] ∧
        (s.splitQueue k j r).queue k = p.upPart a s.allocate.1 :: go ∧
        (cutWalk r (s.queue j)).2.1 ≠ none ∧ (s.splitQueue k j r).free = (s.cutFrom j r).free) := by
  have hset : ∀ (u : State) (x y : List Parcel), ((u.setQueue j x).setQueue k y).queue j = x ∧
      ((u.setQueue j x).setQueue k y).queue k = y ∧
      ∀ i, i ≠ j → i ≠ k → ((u.setQueue j x).setQueue k y).queue i = u.queue i := fun u x y =>
    ⟨by rw [setQueue_queue_ne _ _ _ hkj.symm, setQueue_queue_same], setQueue_queue_same _ _ _, fun i hj hk => by
      rw [setQueue_queue_ne _ _ _ hk, setQueue_queue_ne _ _ _ hj]⟩
  by_cases h : (cutWalk r (s.queue j)).2.1 = none
  · have hc : s.cutFrom j r = s := if_pos h
    obtain ⟨h1, h2, h3⟩ := hset s (cutWalk r (s.queue j)).1 (cutWalk r (s.queue j)).2.2
    rw [splitQueue_of_none h, hc]
    exact ⟨h3, .inl ⟨_, _, Prod.ext rfl (Prod.ext h rfl), h1, h2, .inl ⟨h, rfl⟩⟩⟩
  · have hc : s.cutFrom j r = s.allocate.2 := if_neg h
    rw [splitQueue_of_straddled h, hc]
    cases hw : cutWalk r (s.allocate.2.queue j) with
    | mk stay rest =>
    obtain ⟨straddler, go⟩ := rest
    cases straddler with
    | none =>
      obtain ⟨h1, h2, h3⟩ := hset s.allocate.2 stay go
      exact ⟨h3, .inl ⟨stay, go, rfl, h1, h2, .inr ⟨h, rfl⟩⟩⟩
    | some x =>
      obtain ⟨h1, h2, h3⟩ := hset s.allocate.2 (stay ++ [x.1.downPart x.2]) (x.1.upPart x.2 s.allocate.1 :: go)
      exact ⟨h3, .inr ⟨stay, x.1, x.2, go, rfl, h1, h2, h, rfl⟩⟩

/-- The queue of a span cut into an empty one: the records, the parcels and the other queues. -/
theorem splitQueue_stocked (h : s.stocked) {k j : SpanId} (hkj : k ≠ j) (hk : s.queue k = []) (r : Nat) :
    (s.splitQueue k j r).records = s.records ∧
      (∀ i, ∀ p ∈ (s.splitQueue k j r).queue i, 1 ≤ p.volume) ∧
      ∀ i, i ≠ j → i ≠ k → ((s.splitQueue k j r).queue i = [] ↔ s.queue i = []) := by
  have hu : (s.cutFrom j r).parcelsHold ∧ ∀ i, (s.cutFrom j r).queue i = [] ↔ s.queue i = [] := by
    unfold State.cutFrom
    split
    · exact ⟨h.parcels, fun _ => Iff.rfl⟩
    · exact ⟨allocate_parcelsHold h.pool h.parcels, allocate_queue_eq_nil h.pool⟩
  have hr : (cutWalk r (s.queue j)).2.1 = none → (s.cutFrom j r).records = s.records := fun hn => by
    rw [State.cutFrom, if_pos hn]
  have hr' : (cutWalk r (s.queue j)).2.1 ≠ none → s.allocate.1 ::ₘ (s.cutFrom j r).records = s.records := fun hn => by
    rw [State.cutFrom, if_neg hn, allocate_records h.pool]
  obtain ⟨hup, huq⟩ := hu
  have hknil := (huq k).2 hk
  obtain ⟨hother, hcases⟩ := splitQueue_cases (s := s) hkj r
  have h2 := records_of_two (s := s.cutFrom j r) (t := s.splitQueue k j r) hkj hother
  rw [hknil, show indicesOf [] = [] from rfl, Multiset.coe_nil, add_zero] at h2
  have hvol : (∀ p ∈ (s.splitQueue k j r).queue j, 1 ≤ p.volume) → (∀ p ∈ (s.splitQueue k j r).queue k, 1 ≤ p.volume) →
      ∀ i, ∀ p ∈ (s.splitQueue k j r).queue i, 1 ≤ p.volume := fun hj hk i => by
    by_cases hij : i = j
    · rw [hij]; exact hj
    · by_cases hik : i = k
      · rw [hik]; exact hk
      · rw [hother i hij hik]; exact hup i
  have hempty : ∀ i, i ≠ j → i ≠ k → ((s.splitQueue k j r).queue i = [] ↔ s.queue i = []) := fun i hj hk => by
    rw [hother i hj hk, huq]
  obtain ⟨stay, go, hw, hqj, hqk, hfree⟩ | ⟨stay, p, a, go, hw, hqj, hqk, hs, hfree⟩ := hcases
  · obtain ⟨hps, -, -⟩ := cutWalk_none hw
    have hall := hup j
    rw [hps] at hall
    rw [hps, hqj, hqk, indicesOf_append, ← Multiset.coe_add] at h2
    refine ⟨?_, hvol ?_ ?_, hempty⟩
    · obtain ⟨hn, hfree⟩ | ⟨hs, hfree⟩ := hfree
      · rw [hfree] at h2
        rw [← hr hn]
        exact add_right_cancel (h2.trans (by abel))
      · rw [hfree, ← Multiset.cons_coe, ← Multiset.singleton_add] at h2
        rw [← hr' hs, ← Multiset.singleton_add]
        exact add_right_cancel (h2.trans (by abel))
    · rw [hqj]
      exact fun p hp => hall p (List.mem_append_left _ hp)
    · rw [hqk]
      exact fun p hp => hall p (List.mem_append_right _ hp)
  · obtain ⟨hps, ha, hap, -⟩ := cutWalk_some hw
    have hall := hup j
    rw [hps] at hall
    have hcons : (indicesOf (p.upPart a s.allocate.1 :: go) : Multiset Nat) = {s.allocate.1} + indicesOf go := rfl
    have hdown : (indicesOf (stay ++ [p.downPart a]) : Multiset Nat) = indicesOf (stay ++ [p]) := by
      rw [indicesOf_append, indicesOf_append]
      rfl
    rw [hps, hqj, hqk, hfree, hcons, hdown, List.append_cons, indicesOf_append (stay ++ [p]), ← Multiset.coe_add] at h2
    refine ⟨?_, hvol ?_ ?_, hempty⟩
    · rw [← hr' hs, ← Multiset.singleton_add]
      exact add_right_cancel (h2.trans (by abel))
    · rw [hqj]
      intro x hx
      obtain hx | hx := List.mem_append.1 hx
      · exact hall x (List.mem_append_left _ hx)
      · rw [List.mem_singleton.1 hx]
        exact ha
    · rw [hqk]
      intro x hx
      obtain rfl | hx := List.mem_cons.1 hx
      · show 1 ≤ p.volume - a
        omega
      · exact hall x (List.mem_append_right _ (List.mem_cons_of_mem _ hx))

theorem stocked_splitOpen (h : s.stocked) {k j : SpanId} (hkj : k ≠ j) (hk : s.queue k = []) {lk lj : SpanLine}
    (hlk : s.lineOf k = some lk) (hlj : s.lineOf j = some lj) : (s.splitOpen k j).stocked := by
  obtain ⟨hr, hv, he⟩ := splitQueue_stocked h hkj hk (s.cutVolume j)
  obtain ⟨hf, hq, -⟩ := splitOpen_store (s := s) hkj
  refine ⟨poolWhole_iff.2 (((records_congr hf hq).trans hr).trans (poolWhole_iff.1 h.pool)), fun i => ?_, fun i hc => ?_⟩
  · rw [queue_congr hq]
    exact hv i
  · rw [splitOpen_span hkj] at hc
    by_cases hh : i = k ∨ i = j
    · rw [if_pos hh] at hc
      obtain rfl | rfl := hh
      · rw [hlk] at hc
        exact absurd hc (stateOn_some_ne_closed _ _)
      · rw [hlj] at hc
        exact absurd hc (stateOn_some_ne_closed _ _)
    · rw [if_neg hh] at hc
      rw [not_or] at hh
      rw [queue_congr hq, he i hh.2 hh.1]
      exact h.closed i hc

theorem stocked_changeService (h : s.stocked) (ha : s.absentIsClosed) (ht : s.topologyHolds) (st : StationId)
    (v : ServiceState) (e : Option LineTime) : (s.changeService st v e).stocked := by
  obtain ⟨-, -, -, hf, hq, -, -, -⟩ := serviceTold_same s st v e
  have hspan := serviceTold_span s st v e
  have heffect := changeService_effect ht st v e
  have hu : (s.serviceTold st v e).stocked := stocked_congr h hf hq fun j => by rw [hspan]
  generalize s.serviceTold st v e = u at hspan heffect hu
  generalize s.changeService st v e = t at heffect ⊢
  cases heffect with
  | none => exact hu
  | suspended j => exact stocked_suspendSpan hu j
  | resumed j => exact stocked_resumeSpan hu j
  | merged k j lk lj l hkj hst hlk hlj hup hk hj hl hother =>
    split
    · exact stocked_mergeClosed hu hkj
    · exact stocked_mergeOpen hu hkj hj
  | split k j l lk lj hkj hst hlk hlj hk hj hup hl hother =>
    have hclosed : (u.span k).state = .closed := by
      rw [hspan]
      exact ha k hlk
    split
    · exact stocked_splitClosed hu hclosed
    · exact stocked_splitOpen hu hkj (hu.closed k hclosed) hk hj

theorem stocked_applySettings (h : s.stocked) (ht : s.topologyHolds) {k : SegId} (hk : k.num < s.n) (x : Settings) :
    (s.applySettings k x).stocked := by
  obtain ⟨j, -, -, -, -, hj, -⟩ := applySettings_span ht hk x
  have h1 : (s.setSegment k ((s.segment k).applied x)).stocked := stocked_congr h rfl rfl fun _ => rfl
  refine (applySettings_noticesOnly s k x hj).stocked (stocked_setSpan_same h1 ?_)
  rw [setSegment_span, Span.redrawn]
  split
  · rfl
  · rfl

/-! The fill volume of a span of valid segments is a litre or more. -/

theorem areaOf_pos {d : Nat} (h : 100 ≤ d) : 7000 ≤ areaOf d := by
  have : 100 ^ 2 ≤ d ^ 2 := Nat.pow_le_pow_left h 2
  unfold areaOf roundHalfUp
  omega

theorem vSeg_pos (hg : s.geometryHolds) {k : SegId} (hk : k.num < s.n) : 1 ≤ (s.segment k).vSeg := by
  obtain ⟨hvalid, -, hv⟩ := hg.1 k (isSegment_iff.2 hk)
  obtain ⟨-, hl, -, hd⟩ := settings_bounds hvalid
  have ha := areaOf_pos hd
  have := Nat.mul_le_mul ha hl
  rw [hv]
  unfold vSegOf roundHalfUp
  omega

theorem vSpan_pos (ht : s.topologyHolds) (hg : s.geometryHolds) {j : SpanId} {l : SpanLine}
    (hl : (s.span j).line = some l) : 1 ≤ l.vSpan := by
  obtain ⟨hj, he⟩ := line_of_topology ht hl
  have hmem : j ∈ coveredSegments (s.upstreamEnd j) j := by
    have hlt : (s.upstreamEnd j).val < j.num := derivedLine_upstream_lt s j
    simp only [coveredSegments, SegId.all, List.mem_filter]
    refine ⟨by cases j <;> simp, ?_⟩
    simpa using hlt
  rw [he]
  exact (vSeg_pos hg (isSpanEnd_lt hj)).trans
    (List.single_le_sum (fun _ _ => Nat.zero_le _) _ (List.mem_map_of_mem hmem))

/-! Every command. -/

theorem Answers.stocked {p : PortId} (h : Answers p s t) (hs : s.stocked) (ha : s.absentIsClosed) (ht : s.topologyHolds)
    (hg : s.geometryHolds) : t.stocked := by
  have same : ∀ u : State, u.free = s.free → u.queues = s.queues → (∀ j, u.span j = s.span j) → u.stocked :=
    fun u hf hq hsp => stocked_congr hs hf hq fun j => by rw [hsp]
  cases h with
  | same => exact hs
  | stationIn hout => exact stocked_changeService hs ha ht p _ _
  | stationOut hnot => exact stocked_changeService hs ha ht p _ _
  | readingQueued r hr hlen hq => exact same _ rfl rfl fun _ => rfl
  | readingAtHead r hr hq => exact (convertHead_samplesOnly _ p).stocked (same _ rfl rfl fun _ => rfl)
  | resolved r rest c c' m hq hr => exact same _ rfl rfl fun _ => rfl
  | bankWritten b w x hx => exact same _ rfl rfl fun _ => rfl
  | bankSelected b => exact same _ rfl rfl fun _ => rfl
  | spanOpened j l cFill hl hp hc he hf => exact stocked_openSpan hs cFill (vSpan_pos ht hg hl)
  | spanClosed j l hl hc => exact stocked_closeSpan hs j
  | verdictCleared j l hl => exact (noticesOnly_announceVerdict _ _ _).stocked (stocked_setSpan_same hs rfl)
  | proposed k x hk hp hx =>
    exact (recordProposal_noticesOnly s p k x).stocked (same _ rfl rfl fun _ => rfl)
  | applied k q hk hq => exact stocked_applySettings hs ht hk q.settings
  | withdrawn k hk hp => exact same _ rfl rfl fun _ => rfl
  | watchOwned i w hw => exact same _ rfl rfl fun _ => rfl
  | watchesFrozen flag => exact same _ rfl rfl fun _ => rfl
  | noticeTaken urgent routine hu => exact same _ rfl rfl fun _ => rfl

theorem holdIfTouched_stocked (h : s.stocked) (st : StationId) (j : SpanId) : (s.holdIfTouched st j).stocked := by
  unfold State.holdIfTouched
  split
  · exact stocked_setSpan_same h rfl
  · exact h

theorem reset_free (pending : List Instr) : State.free { State.reset with pending := pending } = List.range 2048 := by
  simp only [State.reset, poolSize]

theorem reset_stocked (pending : List Instr) : State.stocked { State.reset with pending := pending } := by
  refine ⟨poolWhole_iff.2 ?_, fun j p hp => ?_, fun j _ => reset_queue pending j⟩
  · rw [State.records, reset_queue, reset_queue, reset_queue, reset_free, show indicesOf [] = [] from rfl, Multiset.coe_nil,
      add_zero, add_zero, add_zero]
  · rw [reset_queue] at hp
    cases hp

theorem Steps.stocked (h : Steps s t) (hs : s.stocked) (ha : s.absentIsClosed) (ht : s.topologyHolds)
    (hg : s.geometryHolds) : t.stocked := by
  have same : ∀ u : State, u.free = s.free → u.queues = s.queues → (∀ j, u.span j = s.span j) → u.stocked :=
    fun u hf hq hsp => stocked_congr hs hf hq fun j => by rw [hsp]
  cases h with
  | same => exact hs
  | reset => exact reset_stocked _
  | accept img hc ha =>
    obtain ⟨-, -, -, -, -, -, -, -, -, hf, hq, -⟩ := accept_same (s := s) (img := img)
    exact stocked_congr hs hf hq fun j => by rw [accept_span]
  | refuseImage hc =>
    refine same _ ?_ ?_ fun j => ?_
    · rw [refuseImage_rest]
    · rw [refuseImage_rest]
    · rw [refuseImage_rest]
      rfl
  | tick => exact same _ rfl rfl fun _ => rfl
  | silence st hin => exact stocked_changeService hs ha ht st _ _
  | resolve st r rest c c' m hq hr => exact same _ rfl rfl fun _ => rfl
  | agreement k q hq => exact same _ rfl rfl fun _ => rfl
  | holdEnds j => exact stocked_setSpan_same hs rfl
  | tripFalls p hc =>
    have h0 : (s.setPort p { s.port p with trip := .low }).stocked := same _ rfl rfl fun _ => rfl
    exact holdIfTouched_stocked (holdIfTouched_stocked (holdIfTouched_stocked h0 _ _) _ _) _ _
  | tripReleased p => exact same _ rfl rfl fun _ => rfl
  | received p rx => exact same _ rfl rfl fun _ => rfl
  | replied p kind code hb => exact same _ rfl rfl fun _ => rfl
  | answered p r u kind result body hb hp hu =>
    subst hu
    have h0 : (s.setRx p .hunt).stocked := same _ rfl rfl fun _ => rfl
    have h1 : LineKept s (s.setRx p .hunt) := lineKept_setRx p .hunt
    have h2 := (answerTo_answers p r (s.setRx p .hunt)).stocked h0 ha (h1.topologyHolds ht) (h1.geometryHolds hg)
    exact stocked_congr h2 rfl rfl fun _ => rfl
  | restarted p => exact same _ rfl rfl fun _ => rfl
  | replySent p => exact same _ rfl rfl fun _ => rfl
  | granted p r c m hr => exact stocked_applyGrant hs p r c m

/-- A change of a record leaves an absent one CLOSED (R11). -/
theorem absentClosed_of_change {C : Nat → Nat → Prop} {x y : Span} (h : SpanChange C x y)
    (hx : x.line = none → x.state = .closed) : y.line = none → y.state = .closed := by
  cases h with
  | held e => exact hx
  | updated d v m vel t f taint hd hv =>
    rw [judged_eq, weighed_eq]
    exact hx
  | filled v m vel hv => exact hx
  | filledIdle => exact hx
  | opened l now m hl hm =>
    intro h
    rw [show (x.openedWith now l.vSpan m).line = x.line from rfl, hl] at h
    cases h
  | emptied line => exact fun _ => rfl
  | suspended ho =>
    intro h
    rw [hx h] at ho
    cases ho
  | resumed now hs => exact fun h => absurd h hs
  | cleared => exact hx
  | restarted z now v hq hs hd hv => exact hv
  | redrawn l l' changed now hl hv =>
    intro h
    rw [redrawn_line] at h
    cases h
  | placed line hl => exact fun _ => hx hl

end

end Sys2Proof.Machine

open Sys2Proof Sys2Proof.Machine

/-- Settles O55: the store is kept operation by operation; that absent records are CLOSED is kept by each change of
`SpanChange`. -/
theorem stepKeepsPoolWhole : Obligations.StepKeepsPoolWhole := by
  unfold Obligations.StepKeepsPoolWhole
  intro s t ⟨ht, he, hg, ha, hc, hw, hp⟩ hstep
  obtain ⟨pending, h⟩ := steps_of_step hstep
  have hmove := h.spansMove (C := fun _ _ => True) ht he hg fun _ _ _ _ _ => trivial
  have hkept := h.stocked ⟨hw, hp, hc⟩ ha ht hg
  exact ⟨h.topologyHolds ht, h.emptyUntilConfigured ht he, h.geometryHolds ht hg,
    hmove.keeps (fun _ _ hc hx => absentClosed_of_change hc hx) ha, hkept.closed, hkept.pool, hkept.parcels⟩

/-- Settles O15, by induction along the walk. -/
theorem cutSharesTheStraddlingParcel : Obligations.CutSharesTheStraddlingParcel := by
  unfold Obligations.CutSharesTheStraddlingParcel
  refine ⟨fun r ps stay go h => cutWalk_none h, fun r ps stay go p a i h => ?_⟩
  obtain ⟨hps, ha, hap, hsum⟩ := cutWalk_some h
  exact ⟨hps, ha, hap, hsum, rfl, rfl, rfl, rfl, rfl, rfl, Nat.add_sub_cancel' hap.le, rfl,
    Nat.add_sub_cancel' (cut_solids_le p hap.le), rfl, rfl, rfl, rfl, rfl⟩

end

section
/-! The queue of commands, reset, line time, and the events that find no condition (R1, R2, R180). -/

namespace Sys2Proof.Machine

theorem blank_epochStarted : Span.blank.epochStarted 0 := by
  refine ⟨rfl, rfl, rfl, rfl, rfl, rfl, rfl, rfl, rfl, rfl, rfl, rfl, rfl, rfl, fun x hx => ?_⟩
  rw [show x = 0 from hx]
  decide

/-! The state after reset meets each invariant. -/

section
variable (pending : List Instr)

omit pending in
theorem eq_with_pending (s : State) {pending : List Instr} (h : s.pending = pending) : s = { s with pending := pending } := by
  subst h
  rfl

theorem reset_emptyUntilConfigured : State.emptyUntilConfigured { State.reset with pending := pending } := fun _ => rfl

theorem reset_absentIsClosed : State.absentIsClosed { State.reset with pending := pending } := fun j _ => by
  rw [reset_span]
  rfl

theorem reset_identityHolds : State.identityHolds { State.reset with pending := pending } := fun j l hs _ _ => by
  rw [reset_span] at hs
  exact absurd rfl hs

theorem reset_recordsHold (j : SpanId) : (State.span { State.reset with pending := pending } j).recordHolds := by
  rw [reset_span]
  exact ⟨by decide, windowHolds_empty rfl rfl rfl rfl, inRange_blank none⟩

theorem reset_portsHold : State.portsHold { State.reset with pending := pending } := by
  refine portsHold_iff.2 ⟨fun p => ?_, fun _ => ⟨rfl, rfl⟩, fun h => absurd rfl h⟩
  rw [reset_port]
  exact ⟨noticesInForm_atReset p, Nat.zero_le _⟩

theorem reset_isConfigured (p : PortId) : State.isConfigured { State.reset with pending := pending } p = false :=
  decide_eq_false (Nat.not_lt_zero _)

theorem reset_readingsHold : State.readingsHold { State.reset with pending := pending } := fun st => by
  rw [reset_station]
  exact ⟨Nat.zero_le _, fun r hr => by simp [Station.atReset] at hr, fun r hr => by simp [Station.atReset] at hr, by decide⟩

theorem reset_banksHold : State.banksHold { State.reset with pending := pending } :=
  ⟨reset_emptyUntilConfigured pending, fun st _ h => by rw [reset_isConfigured] at h; cases h⟩

theorem reset_unusedHolds : State.unusedHolds { State.reset with pending := pending } := by
  refine ⟨reset_topologyHolds pending, reset_emptyUntilConfigured pending, fun p _ => ?_, fun i p h => ?_, fun k q h => ?_⟩
  · rw [reset_port, reset_station]
    exact ⟨rfl, rfl⟩
  · rw [reset_watch] at h
    cases h
  · rw [reset_segment] at h
    cases h

end

/-! Timers (R2). -/

theorem toNat_expiry_sub (start : LineTime) (length after : Nat) :
    (start + BitVec.ofNat 32 after - (start + BitVec.ofNat 32 length)).toNat =
      (2 ^ 32 - length % 2 ^ 32 + after % 2 ^ 32) % 2 ^ 32 := by
  have hlt := start.isLt
  simp only [BitVec.toNat_sub, BitVec.toNat_add, BitVec.toNat_ofNat]
  omega

/-- A timer of at most 600 s is due from its length on, for 2^31 s (R2). -/
theorem timerDue_started_iff {length after : Nat} (start : LineTime) (hl : length ≤ 600) (ha : after < 2 ^ 31) :
    timerDue (start + BitVec.ofNat 32 after) (some (start + BitVec.ofNat 32 length)) = true ↔ length ≤ after := by
  have h := toNat_expiry_sub start length after
  rw [timerDue, reached, decide_eq_true_iff, h]
  omega

/-! The arbiter finds no port where no head is READY. -/

theorem grantee_eq_none {s : State} (h : ∀ q, (s.station q).readyHead = none) : s.grantee = none := by
  rw [State.grantee, List.find?_eq_none]
  intro q _
  rw [h q]
  simp

end Sys2Proof.Machine

open Sys2Proof Sys2Proof.Machine

/-- Settles O1: `step` is defined by the front of the queue. -/
theorem stepRunsFrontCommand : Obligations.StepRunsFrontCommand := by
  unfold Obligations.StepRunsFrontCommand
  exact ⟨fun c rest s h => by rw [step, h], fun s h => by rw [step, h]⟩

/-- Settles O2, record by record. -/
theorem resetGivesResetValues : Obligations.ResetGivesResetValues := by
  unfold Obligations.ResetGivesResetValues
  refine ⟨⟨rfl, rfl, blank_epochStarted, rfl, rfl, rfl, rfl, rfl, rfl, rfl, rfl⟩, rfl, fun s => ?_⟩
  refine ⟨{ State.reset with pending := s.pending }, rfl, rfl, rfl, rfl, rfl, rfl, rfl, rfl, reset_free _, fun st => ?_,
    fun j => ⟨reset_queue _ j, reset_span _ j⟩, fun k => ?_, reset_watch _, fun p => ?_⟩
  · rw [reset_station]
    exact ⟨rfl, rfl, rfl, rfl, rfl, rfl⟩
  · rw [reset_segment]
    rfl
  · rw [reset_port]
    exact ⟨rfl, rfl, rfl, rfl, rfl, rfl⟩

/-- Settles O5: line time is 32 bits wide. -/
theorem tickMovesLineTime : Obligations.TickMovesLineTime := by
  unfold Obligations.TickMovesLineTime
  intro s
  have hexec : exec .lineTimeTick s = .next (if s.config = .configured then { s with lineTime := s.lineTime + 1 } else s) :=
    rfl
  rw [hexec]
  refine ⟨fun h => ⟨_, congrArg _ (if_pos h), rfl, ?_⟩, fun h => congrArg _ (if_neg h)⟩
  have hlt := s.lineTime.isLt
  show (s.lineTime + 1).toNat = _
  rw [BitVec.toNat_add]
  split
  · rename_i hmax
    rw [hmax]
    rfl
  · show (s.lineTime.toNat + 1) % 2 ^ 32 = _
    omega

/-- Settles O60, invariant by invariant. -/
theorem resetMeetsInvariants : Obligations.ResetMeetsInvariants := by
  unfold Obligations.ResetMeetsInvariants
  obtain ⟨pending, hreset⟩ : ∃ pending, State.reset = { State.reset with pending := pending } :=
    ⟨_, eq_with_pending State.reset rfl⟩
  rw [hreset]
  have hstocked := reset_stocked pending
  obtain ⟨hlatch, hwindow, hrange⟩ := recordsHold_iff.2 (reset_recordsHold pending)
  obtain ⟨hnotices, hbuffers, hserial⟩ := reset_portsHold pending
  exact ⟨⟨reset_topologyHolds _, reset_emptyUntilConfigured _, reset_geometryHolds _, reset_absentIsClosed _,
      hstocked.closed, hstocked.pool, hstocked.parcels⟩,
    ⟨reset_topologyHolds _, reset_emptyUntilConfigured _, reset_absentIsClosed _, reset_geometryHolds _,
      reset_identityHolds _⟩, hlatch, hwindow, hrange, hnotices, hbuffers, hserial, reset_readingsHold _,
    reset_banksHold _, reset_unusedHolds _⟩

/-- Settles O6: a timer by the distance of its expiry from line time, an event by the test of its own command. -/
theorem eventsOutOfPlaceChangeNothing : Obligations.EventsOutOfPlaceChangeNothing := by
  unfold Obligations.EventsOutOfPlaceChangeNothing
  refine ⟨fun start length after hl => ⟨fun ha => ?_, fun hle ha => (timerDue_started_iff start hl ha).2 hle⟩,
    fun now e => ⟨rfl, rfl⟩, fun s st p k j image => ?_⟩
  · rw [← Bool.not_eq_true, timerDue_started_iff start hl (by omega)]
    omega
  refine ⟨fun h => congrArg _ (if_pos h), fun h => congrArg _ (if_neg fun hd => ?_), fun h => congrArg _ (if_neg ?_),
    fun h => ?_, fun h => congrArg _ (if_neg ?_), fun h => congrArg _ (if_neg fun ht => ?_),
    fun h => congrArg _ (if_neg fun ht => ?_), fun h => congrArg _ (if_pos h), fun h => congrArg _ (if_neg h), fun h => ?_⟩
  · obtain h | h := h
    · simp [h] at hd
    · simp [h] at hd
  · simp [h]
  · have hexec : exec (.agreementExpiry k) s = execAgreementExpiry k s := rfl
    rw [hexec, execAgreementExpiry]
    cases hq : (s.segment k).proposal with
    | none => rfl
    | some q => simp [h q hq]
  · simp [h]
  · obtain h | h := h
    · exact h ht.1
    · rw [h] at ht
      cases ht.2
  · obtain h | h := h
    · exact h ht.1
    · rw [h] at ht
      cases ht.2
  · have hexec : exec .grant s = execGrant s := rfl
    rw [hexec, execGrant, grantee_eq_none fun q => not_headReady_iff.1 (h q)]

end

section
/-! Ports: the screen of a request, STATUS, NOTICE_GET, restarts, and the freezing of counters (R43, R150, R151, R167 to R179). -/

namespace Sys2Proof.Machine

section
variable {s : State} {p : PortId}

theorem bufferFull_of_four (h : (s.port p).replies.length = 4) : s.bufferFull p = true := by
  simp [State.bufferFull, replyPlaces, h]

/-- A request that hearing port's screen refuses (checks 3 and 4 of R167). -/
theorem exec_requestRow_of_screened {r : Request} {code : Result} (h : s.hears p) (hs : s.screen p r = some code) :
    exec (requestRow p r) s = .next (s.answered p r.kind code .none) := by
  have hscreen : (s.setRx p .hunt).screen p r = some code := hs
  rw [exec_requestRow, State.completeRequest, if_pos h.1, if_neg (by simp [h.2]), State.takeRequest, hscreen]
  exact congrArg _ (reply_setRx s p r.kind code .none)

theorem exec_status_of_hears (h : s.hears p) : exec (.status p) s = .next (s.answered p 0x01 .done (.status s.config s.lineTime s.n
    ⟨(s.station 0).statusOf, (s.station 1).statusOf, (s.station 2).statusOf, (s.station 3).statusOf⟩ s.free.length
    ⟨(s.span .one).line.isSome, (s.span .two).line.isSome, (s.span .three).line.isSome⟩)) := by
  have hexec : exec (.status p) s = .next (s.completeRequest p .status) := rfl
  have hscreen : (s.setRx p .hunt).screen p .status = none := rfl
  rw [hexec, State.completeRequest, if_pos h.1, if_neg (by simp [h.2]), State.takeRequest, hscreen]
  exact congrArg _ (reply_setRx s p 0x01 .done _)

theorem headState_eq_empty_iff {x : Station} : x.headState = .empty ↔ x.queue = [] := by
  unfold Station.headState
  cases x.queue with
  | nil => simp
  | cons r rest => cases hr : r.stage <;> simp [hr]

theorem headState_eq_awaiting_iff {x : Station} :
    x.headState = .awaiting ↔ ∃ r c, x.queue.head? = some r ∧ r.stage = .awaiting c := by
  unfold Station.headState
  cases x.queue with
  | nil => simp
  | cons r rest => cases hr : r.stage <;> simp [hr]

/-- A port replaced in a request's answer, and the reply placed in it. -/
theorem reply_setPort (s : State) (p : PortId) (x : Port) (kind : Byte) (result : Result) (body : ReplyBody) :
    ((s.setRx p .hunt).setPort p x).reply p kind result body = s.setPort p (x.reply ⟨kind, result, body⟩) := by
  simp [State.reply, State.setRx]

/-! The freezing of a port's counters (R150, R151). -/

/-- The counters a port owns, counted along the index order or as a set. -/
theorem ownedCount_eq (s : State) (p : PortId) :
    s.ownedCount p = (Finset.univ.filter (fun i : WatchId => (s.watch i).owner = some p)).card := by
  have huniv : (Finset.univ : Finset WatchId) = allWatches.toFinset := by decide
  have hnodup : allWatches.Nodup := by decide
  have hfilter := List.toFinset_filter allWatches fun i => decide ((s.watch i).owner = some p)
  simp only [decide_eq_true_eq] at hfilter
  rw [huniv, ← hfilter, List.toFinset_card_of_nodup (hnodup.filter _), State.ownedCount]
  simp only [beq_eq_decide]

/-- What freezing or thawing a port's counters answers (R150, R151). -/
def State.frozenBy (s : State) (p : PortId) (kind : Byte) (flag : Bool) : State :=
  ((s.setRx p .hunt).freezeOwned p flag).reply p kind .done (.owned (s.ownedCount p))

theorem exec_watchFreeze_of_takes (h : s.takes p) : exec (.watchFreeze p) s = .next (s.frozenBy p 0x44 true) :=
  exec_requestRow_of_answer (r := .watchFreeze) h rfl

theorem exec_watchThaw_of_takes (h : s.takes p) : exec (.watchThaw p) s = .next (s.frozenBy p 0x45 false) :=
  exec_requestRow_of_answer (r := .watchThaw) h rfl

theorem frozenBy_rest (kind : Byte) (flag : Bool) : s.frozenBy p kind flag =
    { s with watches := (s.frozenBy p kind flag).watches, ports := (s.frozenBy p kind flag).ports } := rfl

theorem frozenBy_watch (kind : Byte) (flag : Bool) (i : WatchId) : (s.frozenBy p kind flag).watch i =
    if (s.watch i).owner = some p then { s.watch i with frozen := flag } else s.watch i :=
  freezeOwned_watch (s.setRx p .hunt) p flag i

theorem frozenBy_port_ne (kind : Byte) (flag : Bool) {q : PortId} (h : q ≠ p) :
    (s.frozenBy p kind flag).port q = s.port q := by
  rw [State.frozenBy, reply_port_ne (h := h)]
  exact setRx_port_ne _ _ _ h

theorem frozenBy_port_same (kind : Byte) (flag : Bool) : (s.frozenBy p kind flag).port p = { s.port p with
    rx := .hunt, replies := (s.port p).replies ++ [⟨kind, .done, .owned (s.ownedCount p)⟩] } := by
  have h : ((s.setRx p .hunt).freezeOwned p flag).port p = { s.port p with rx := .hunt } := setRx_port_same _ _ _
  rw [State.frozenBy, reply_port_same, h]
  rfl

/-- What stands in a state that differs from another in watch counters and ports alone. -/
theorem same_of_watches_and_ports {t : State} (h : t = { s with watches := t.watches, ports := t.ports }) :
    s.sameSetUp t ∧ s.sameStations t ∧ s.sameSegments t ∧ s.sameSpans t ∧ s.sameStore t := by
  rw [h]
  exact ⟨⟨rfl, rfl, rfl, rfl, rfl, rfl, rfl, rfl, rfl, rfl⟩, ⟨rfl, fun _ => rfl⟩, fun _ => rfl, fun _ => rfl,
    rfl, fun _ => rfl⟩

end

end Sys2Proof.Machine

open Sys2Proof Sys2Proof.Machine

/-- Settles O46: a full buffer, then the screen. -/
theorem requestsAreScreened : Obligations.RequestsAreScreened := by
  unfold Obligations.RequestsAreScreened
  intro s p r hl
  refine ⟨fun h => ?full, fun hh hr => ⟨fun hc => ?unconfigured, fun hc hp => ?unused⟩⟩
  case full => rw [exec_requestRow, completeRequest_of_full r hl (bufferFull_of_four h), State.setRx]
  case unconfigured => exact exec_requestRow_of_screened hh (by rw [State.screen, if_neg hr, if_pos hc])
  case unused =>
    exact exec_requestRow_of_screened hh (by rw [State.screen, if_neg hr, if_neg (by simp [hc]), hp, if_neg (by simp)])

/-- Settles O47: STATUS passes the screen and reports each station by its record. -/
theorem statusReports : Obligations.StatusReports := by
  unfold Obligations.StatusReports
  intro s p h
  refine ⟨_, exec_status_of_hears h, fun st => ?_⟩
  have hst : Quad.get ⟨(s.station 0).statusOf, (s.station 1).statusOf, (s.station 2).statusOf, (s.station 3).statusOf⟩ st =
      (s.station st).statusOf := by fin_cases st <;> rfl
  rw [hst]
  exact ⟨rfl, rfl, headState_eq_empty_iff, headState_eq_awaiting_iff⟩

/-- Settles O48, by which part of the queue holds a notice. -/
theorem noticeGetTakesOldest : Obligations.NoticeGetTakesOldest := by
  unfold Obligations.NoticeGetTakesOldest
  intro s p x xs ht
  have hport : (s.setRx p .hunt).port p = { s.port p with rx := .hunt } := setRx_port_same _ _ _
  refine ⟨fun hu => ?urgent, fun hu hr => ?routine, fun hu hr => ?empty⟩
  case urgent =>
    have ha : answerTo p .noticeGet (s.setRx p .hunt) = ⟨.done, .notice x true (xs.length + (s.port p).routine.length),
        (s.setRx p .hunt).setPort p (((s.setRx p .hunt).port p).withNotices xs (s.port p).routine)⟩ := by
      simp [answerTo, answerNoticeGet, hu]
    have hexec := exec_requestRow_of_answer (r := .noticeGet) ht ha
    rw [reply_setPort, hport] at hexec
    refine hexec.trans ?_
    simp [Port.withNotices, Port.reply, Request.kind]
  case routine =>
    have ha : answerTo p .noticeGet (s.setRx p .hunt) = ⟨.done, .notice x false xs.length,
        (s.setRx p .hunt).setPort p (((s.setRx p .hunt).port p).withNotices [] xs)⟩ := by
      simp [answerTo, answerNoticeGet, hu, hr]
    have hexec := exec_requestRow_of_answer (r := .noticeGet) ht ha
    rw [reply_setPort, hport] at hexec
    refine hexec.trans ?_
    simp [Port.withNotices, Port.reply, Request.kind, hu]
  case empty =>
    refine exec_requestRow_of_refuse (r := .noticeGet) ht ?_
    simp [answerTo, answerNoticeGet, hu, hr]

/-- Settles O50: each command is one port's record, a restart one station's beside it. -/
theorem portRestartAndReplySent : Obligations.PortRestartAndReplySent := by
  unfold Obligations.PortRestartAndReplySent
  intro s p
  refine ⟨fun hc hr => ?_, fun h => congrArg _ (if_pos h), fun x xs h => ?_⟩
  · refine ⟨(s.setPort p (s.port p).restarted).setStation p (s.station p).queueDropped,
      congrArg _ (if_neg (not_or.2 ⟨hc, hr⟩)), setPort_port_same _ _ _, setStation_station_same _ _ _,
      fun q hq => setPort_port_ne _ _ _ hq, ⟨rfl, fun x hx => setStation_station_ne _ _ _ hx⟩,
      ⟨rfl, rfl, rfl, rfl, rfl, rfl, rfl, rfl, rfl, rfl⟩, fun _ => rfl, fun _ => rfl, ⟨rfl, fun _ => rfl⟩, fun _ => rfl⟩
  · have hexec : exec (.replySent p) s = .next (s.setPort p { s.port p with replies := (s.port p).replies.tail }) := rfl
    rw [hexec, h, List.tail_cons]

/-- Settles O43: both requests set the flag of the requester's counters. -/
theorem watchFreezeAndThaw : Obligations.WatchFreezeAndThaw := by
  unfold Obligations.WatchFreezeAndThaw
  intro s p c kind flag ht hc
  have hexec : exec c s = .next (s.frozenBy p kind flag) := by
    obtain ⟨rfl, rfl, rfl⟩ | ⟨rfl, rfl, rfl⟩ := hc
    · exact exec_watchFreeze_of_takes ht
    · exact exec_watchThaw_of_takes ht
  obtain ⟨hsetUp, hstations, hsegments, hspans, hstore⟩ := same_of_watches_and_ports (frozenBy_rest (s := s) (p := p) kind flag)
  refine ⟨_, hexec, frozenBy_watch kind flag, hsetUp, hstations, hsegments, hspans, hstore,
    fun q hq => frozenBy_port_ne kind flag hq, ?_⟩
  rw [frozenBy_port_same, ownedCount_eq]

end

section
/-! The notices of one event in their order: what a run of raisings leaves in a port's queue (R174 to R176). -/

namespace Sys2Proof.Machine

/-! A raising and the notices of other keys. -/

section
variable {p q : Port} {body : NoticeBody} {now : LineTime}

theorem updateHeld_filter (part : List Notice) {g : NoticeKey → Bool} (h : g body.key = false) :
    (updateHeld body part).filter (fun n => g n.key) = part.filter (fun n => g n.key) := by
  induction part with
  | nil => rfl
  | cons n part ih =>
    have hcons : updateHeld body (n :: part) = (if n.key = body.key then n.coalesce body else n) :: updateHeld body part := rfl
    rw [hcons]
    by_cases hk : n.key = body.key
    · have hc : (n.coalesce body).key = body.key := NoticeBody.coalesce_key n.body body hk
      rw [if_pos hk, List.filter_cons_of_neg (by simp [hc, h]), List.filter_cons_of_neg (by simp [hk, h]), ih]
    · rw [if_neg hk, List.filter_cons, List.filter_cons, ih]

theorem dropKey_filter (part : List Notice) {k : NoticeKey} {g : NoticeKey → Bool} (h : g k = false) :
    (dropKey k part).filter (fun n => g n.key) = part.filter (fun n => g n.key) := by
  rw [dropKey, List.filter_filter]
  refine List.filter_congr fun n _ => ?_
  by_cases hk : n.key = k
  · simp [hk, h]
  · simp [hk]

/-- The notices of a class of keys stand, part by part, where the raised key is not of the class. -/
theorem Port.raise_filter (p : Port) (urgent : Bool) (now : LineTime) {g : NoticeKey → Bool} (h : g body.key = false) :
    (p.raise body urgent now).urgent.filter (fun n => g n.key) = p.urgent.filter (fun n => g n.key) ∧
      (p.raise body urgent now).routine.filter (fun n => g n.key) = p.routine.filter (fun n => g n.key) := by
  have hmoved : (updateHeld body (p.routine.filter (fun n => n.key == body.key))).filter (fun n => g n.key) = [] := by
    rw [updateHeld_filter _ h, List.filter_filter, List.filter_eq_nil_iff]
    intro n _ hn
    simp only [Bool.and_eq_true, beq_iff_eq] at hn
    rw [hn.2, h] at hn
    cases hn.1
  have hnew : List.filter (fun n => g n.key) [(⟨body, now⟩ : Notice)] = [] := List.filter_cons_of_neg (by
    rw [show (⟨body, now⟩ : Notice).key = body.key from rfl, h]
    simp)
  obtain he | ⟨-, he⟩ | he | he | he := p.raise_cases body urgent now <;> rw [he]
  · exact ⟨updateHeld_filter _ h, rfl⟩
  · exact ⟨by rw [Port.withNotices_urgent, List.filter_append, hmoved, List.append_nil], dropKey_filter _ h⟩
  · exact ⟨rfl, updateHeld_filter _ h⟩
  · exact ⟨by rw [Port.withNotices_urgent, List.filter_append, hnew, List.append_nil], rfl⟩
  · exact ⟨rfl, by rw [Port.withNotices_routine, List.filter_append, hnew, List.append_nil]⟩

theorem Port.raiseAll_filter (p : Port) (now : LineTime) {g : NoticeKey → Bool} {xs : List (NoticeBody × Bool)}
    (h : ∀ x ∈ xs, g x.1.key = false) :
    (p.raiseAll now xs).urgent.filter (fun n => g n.key) = p.urgent.filter (fun n => g n.key) ∧
      (p.raiseAll now xs).routine.filter (fun n => g n.key) = p.routine.filter (fun n => g n.key) := by
  induction xs generalizing p with
  | nil => exact ⟨rfl, rfl⟩
  | cons x xs ih =>
    obtain ⟨h1, h2⟩ := p.raise_filter x.2 now (h x List.mem_cons_self)
    obtain ⟨h3, h4⟩ := ih (p.raise x.1 x.2 now) fun y hy => h y (List.mem_cons_of_mem _ hy)
    exact ⟨h3.trans h1, h4.trans h2⟩

/-! What a port is told: it depends on the notices of the key alone. -/

/-- Two ports hold the same notices of a key, part by part. -/
structure Port.SameOf (k : NoticeKey) (p q : Port) : Prop where
  urgent : q.urgent.filter (fun n => n.key == k) = p.urgent.filter (fun n => n.key == k)
  routine : q.routine.filter (fun n => n.key == k) = p.routine.filter (fun n => n.key == k)

theorem holdsKey_eq_filter (k : NoticeKey) (part : List Notice) :
    holdsKey k part = (part.filter (fun n => n.key == k)).any fun _ => true := by
  rw [holdsKey, List.any_filter]
  simp

theorem holds_body_iff_filter (body : NoticeBody) (part : List Notice) :
    (∃ x ∈ part, x.body = body) ↔ ∃ x ∈ part.filter (fun n => n.key == body.key), x.body = body := by
  simp only [List.mem_filter, beq_iff_eq]
  exact ⟨fun ⟨x, hx, hb⟩ => ⟨x, ⟨hx, congrArg NoticeBody.key hb⟩, hb⟩, fun ⟨x, hx, hb⟩ => ⟨x, hx.1, hb⟩⟩

theorem Port.tells_congr {p' q' : Port} {k : NoticeKey} (hk : body.key = k) (urgent : Bool) (hp : Port.SameOf k p p')
    (hq : Port.SameOf k q q') : p'.tells q' body urgent ↔ p.tells q body urgent := by
  subst hk
  simp only [Port.tells, holdsKey_eq_filter, hp.urgent, holds_body_iff_filter body q'.urgent,
    holds_body_iff_filter body q'.routine, hq.urgent, hq.routine, ← holds_body_iff_filter]

theorem Port.sameOf_refl (k : NoticeKey) (p : Port) : Port.SameOf k p p := ⟨rfl, rfl⟩

theorem Port.sameOf_raise {k : NoticeKey} (p : Port) (urgent : Bool) (now : LineTime) (h : body.key ≠ k) :
    Port.SameOf k p (p.raise body urgent now) := by
  obtain ⟨h1, h2⟩ := p.raise_filter (body := body) urgent now (g := fun x => x == k) (by simpa using h)
  exact ⟨h1, h2⟩

theorem Port.sameOf_raiseAll {k : NoticeKey} (p : Port) (now : LineTime) {xs : List (NoticeBody × Bool)}
    (h : ∀ x ∈ xs, x.1.key ≠ k) : Port.SameOf k p (p.raiseAll now xs) := by
  obtain ⟨h1, h2⟩ := p.raiseAll_filter now (xs := xs) (g := fun x => x == k) fun x hx => by simpa using h x hx
  exact ⟨h1, h2⟩

theorem Port.mem_keys_of_sameOf {k : NoticeKey} (h : Port.SameOf k p q) : k ∈ q.keys ↔ k ∈ p.keys := by
  simp only [Port.mem_keys, holdsKey_eq_filter, h.urgent, h.routine]

/-- What one raising tells a port: the notice, or, for a VERDICT of a key held, its change from the verdict first left
(R175, R176). -/
theorem Port.tells_raise_coalesced (p : Port) (body : NoticeBody) (urgent : Bool) (now : LineTime) :
    ∃ held : NoticeBody, held.key = body.key ∧ (body.key ∉ p.keys → held = body) ∧
      p.tells (p.raise body urgent now) (held.coalesce body) urgent := by
  have hself : body.coalesce body = body := by cases body <;> rfl
  have hkey : ∀ x : Notice, x.key = body.key → (x.body.coalesce body).key = body.key := fun x hx =>
    NoticeBody.coalesce_key x.body body hx
  by_cases hu : holdsKey body.key p.urgent = true
  · obtain ⟨n, hn, hk⟩ := (holdsKey_iff _ _).1 hu
    refine ⟨n.body, hk, fun hnot => absurd (Port.mem_keys.2 (.inl hu)) hnot, ?_⟩
    have hmem := mem_updateHeld_of_eq hn hk
    rw [Port.tells, hkey n hk, if_pos (.inr hu), Port.raise, if_pos hu]
    exact ⟨_, hmem, rfl⟩
  · by_cases hr : holdsKey body.key p.routine = true
    · obtain ⟨n, hn, hk⟩ := (holdsKey_iff _ _).1 hr
      refine ⟨n.body, hk, fun hnot => absurd (Port.mem_keys.2 (.inr hr)) hnot, ?_⟩
      rw [Port.tells, hkey n hk, Port.raise, if_neg hu, if_pos hr]
      cases urgent with
      | false =>
        rw [if_neg (by simp [hu]), if_neg (by simp)]
        exact ⟨_, mem_updateHeld_of_eq hn hk, rfl⟩
      | true =>
        rw [if_pos (.inl rfl), if_pos rfl]
        refine ⟨_, List.mem_append_right _ (mem_updateHeld_of_eq (List.mem_filter.2 ⟨hn, by simpa using hk⟩) hk), rfl⟩
    · refine ⟨body, rfl, fun _ => rfl, ?_⟩
      rw [hself, Port.tells, Port.raise, if_neg hu, if_neg hr]
      cases urgent with
      | false =>
        rw [if_neg (by simp [hu]), if_neg (by simp)]
        exact ⟨⟨body, now⟩, List.mem_append_right _ List.mem_cons_self, rfl⟩
      | true =>
        rw [if_pos (.inl rfl), if_pos rfl]
        exact ⟨⟨body, now⟩, List.mem_append_right _ List.mem_cons_self, rfl⟩

/-- What a run of raisings tells a port of a key that it raises once. -/
theorem Port.tells_raiseAll (p : Port) (now : LineTime) {urgent : Bool} {xs : List (NoticeBody × Bool)}
    (h : xs.filter (fun x => x.1.key == body.key) = [(body, urgent)]) :
    ∃ held : NoticeBody, held.key = body.key ∧ (body.key ∉ p.keys → held = body) ∧
      p.tells (p.raiseAll now xs) (held.coalesce body) urgent := by
  induction xs generalizing p with
  | nil => cases h
  | cons x xs ih =>
    by_cases hx : x.1.key = body.key
    · rw [List.filter_cons_of_pos (by simpa using hx), List.cons.injEq, List.filter_eq_nil_iff] at h
      obtain ⟨rfl, hrest⟩ := h
      obtain ⟨held, hk, hnew, htell⟩ := p.tells_raise_coalesced body urgent now
      have hsame := (p.raise body urgent now).sameOf_raiseAll now (k := body.key) (xs := xs) fun y hy => by
        simpa using hrest y hy
      exact ⟨held, hk, hnew, (Port.tells_congr (NoticeBody.coalesce_key held body hk) urgent
        (p.sameOf_refl body.key) hsame).2 htell⟩
    · rw [List.filter_cons_of_neg (by simpa using hx)] at h
      obtain ⟨held, hk, hnew, htell⟩ := ih (p.raise x.1 x.2 now) h
      have hsame := p.sameOf_raise x.2 now hx
      refine ⟨held, hk, fun hnot => hnew (fun hm => hnot ((Port.mem_keys_of_sameOf hsame).1 hm)), ?_⟩
      exact (Port.tells_congr (NoticeBody.coalesce_key held body hk) urgent hsame
        (((p.raise x.1 x.2 now).raiseAll now xs).sameOf_refl body.key)).1 htell

/-! The notices that a port gains, in order. -/

/-- A port that holds none of the raised keys gains the notices behind those it holds (R175). -/
theorem Port.gains_raiseAll (p : Port) (now : LineTime) {xs : List (NoticeBody × Bool)}
    (h : (xs.map fun x => x.1.key).Nodup) : p.gains (p.raiseAll now xs) now xs := by
  induction xs generalizing p with
  | nil => exact fun _ => ⟨by simp, by simp⟩
  | cons x xs ih =>
    intro hnot
    rw [List.map_cons, List.nodup_cons] at h
    have hx := hnot x List.mem_cons_self
    have hrest := ih (p.raise x.1 x.2 now) h.2 fun y hy hm => by
      rw [Port.mem_raise_keys] at hm
      obtain hm | hm := hm
      · exact hnot y (List.mem_cons_of_mem _ hy) hm
      · exact h.1 (hm ▸ List.mem_map_of_mem hy)
    rw [Port.raise_of_notHeld x.2 now hx, Port.withNotices_urgent, Port.withNotices_routine] at hrest
    rw [Port.raiseAll_cons, Port.raise_of_notHeld x.2 now hx]
    cases hu : x.2 with
    | true =>
      rw [hu] at hrest
      rw [List.filter_cons_of_pos hu, List.filter_cons_of_neg (by simp [hu])]
      simpa using hrest
    | false =>
      rw [hu] at hrest
      rw [List.filter_cons_of_neg (by simp [hu]), List.filter_cons_of_pos (by simp [hu])]
      simpa using hrest

/-- Whether a key is another than that of a WATCH notice. -/
def NoticeKey.besideWatch : NoticeKey → Bool
  | .watch _ => false
  | _ => true

theorem besideWatch_eq (x : Notice) : x.besideWatch = x.key.besideWatch := by
  obtain ⟨body, time⟩ := x
  cases body <;> rfl

theorem Port.mem_besideWatch_keys {k : NoticeKey} (h : k.besideWatch = true) : k ∈ p.besideWatch.keys ↔ k ∈ p.keys := by
  simp only [Port.keys, Port.besideWatch, List.map_append, List.mem_append, List.mem_map, List.mem_filter, besideWatch_eq]
  constructor
  · rintro (⟨n, ⟨hn, -⟩, hk⟩ | ⟨n, ⟨hn, -⟩, hk⟩)
    · exact .inl ⟨n, hn, hk⟩
    · exact .inr ⟨n, hn, hk⟩
  · rintro (⟨n, hn, hk⟩ | ⟨n, hn, hk⟩)
    · exact .inl ⟨n, ⟨hn, hk ▸ h⟩, hk⟩
    · exact .inr ⟨n, ⟨hn, hk ▸ h⟩, hk⟩

theorem Port.besideWatch_raise (p : Port) (urgent : Bool) (now : LineTime) (h : body.key.besideWatch = false) :
    (p.raise body urgent now).besideWatch.urgent = p.besideWatch.urgent ∧
      (p.raise body urgent now).besideWatch.routine = p.besideWatch.routine := by
  simp only [Port.besideWatch, funext besideWatch_eq]
  exact p.raise_filter urgent now h

/-- The same with WATCH notices set aside: those of a run that raises some among others. -/
theorem Port.gains_raiseAll_besideWatch (p : Port) (now : LineTime) {xs : List (NoticeBody × Bool)}
    (h : ((xs.filter fun x => x.1.key.besideWatch).map fun x => x.1.key).Nodup) :
    p.besideWatch.gains (p.raiseAll now xs).besideWatch now (xs.filter fun x => x.1.key.besideWatch) := by
  induction xs generalizing p with
  | nil => exact fun _ => ⟨by simp, by simp⟩
  | cons x xs ih =>
    by_cases hb : x.1.key.besideWatch = true
    · rw [List.filter_cons, if_pos hb] at h ⊢
      intro hnot
      rw [List.map_cons, List.nodup_cons] at h
      have hx := hnot x List.mem_cons_self
      rw [Port.mem_besideWatch_keys hb] at hx
      have hrest := ih (p.raise x.1 x.2 now) h.2 fun y hy hm => by
        have hyb := (List.mem_filter.1 hy).2
        rw [Port.mem_besideWatch_keys hyb, Port.mem_raise_keys] at hm
        obtain hm | hm := hm
        · exact hnot y (List.mem_cons_of_mem _ hy) ((Port.mem_besideWatch_keys hyb).2 hm)
        · exact h.1 (hm ▸ List.mem_map_of_mem hy)
      have hnew : Notice.besideWatch ⟨x.1, now⟩ = true := by rw [besideWatch_eq]; exact hb
      rw [Port.raise_of_notHeld x.2 now hx] at hrest
      rw [Port.raiseAll_cons, Port.raise_of_notHeld x.2 now hx]
      cases hu : x.2 with
      | true =>
        rw [hu] at hrest
        rw [List.filter_cons_of_pos hu, List.filter_cons_of_neg (by simp [hu])]
        simpa [Port.besideWatch, List.filter_append, hnew] using hrest
      | false =>
        rw [hu] at hrest
        rw [List.filter_cons_of_neg (by simp [hu]), List.filter_cons_of_pos (by simp [hu])]
        simpa [Port.besideWatch, List.filter_append, hnew] using hrest
    · rw [List.filter_cons, if_neg hb] at h ⊢
      obtain ⟨h1, h2⟩ := p.besideWatch_raise x.2 now (by simpa using hb : x.1.key.besideWatch = false)
      have hrest := ih (p.raise x.1 x.2 now) h
      intro hnot
      rw [Port.raiseAll_cons, ← h1, ← h2]
      refine hrest fun y hy hm => hnot y hy ?_
      rw [Port.keys, h1, h2] at hm
      exact hm

end

end Sys2Proof.Machine

end

section
/-! Which notices each operation raises, port by port, in their order (R7, R126, R142, R158, R174). -/

namespace Sys2Proof.Machine

/-- An event raises these notices to each port, in this order, and does nothing else to the port's queue. -/
structure RaisedAs (s t : State) (xs : PortId → List (NoticeBody × Bool)) : Prop where
  ports : ∀ q, t.port q = (s.port q).raiseAll s.lineTime (xs q)
  lineTime : t.lineTime = s.lineTime

section
variable {s t u : State} {xs ys : PortId → List (NoticeBody × Bool)}

theorem RaisedAs.of_ports (h : t.ports = s.ports) (hl : t.lineTime = s.lineTime) : RaisedAs s t fun _ => [] :=
  ⟨fun q => by rw [State.port, h]; rfl, hl⟩

theorem RaisedAs.trans (h : RaisedAs s t xs) (k : RaisedAs t u ys) : RaisedAs s u fun q => xs q ++ ys q :=
  ⟨fun q => by rw [k.ports, h.ports, h.lineTime, ← Port.raiseAll_append], k.lineTime.trans h.lineTime⟩

theorem RaisedAs.congr (h : RaisedAs s t xs) (hx : ∀ q, xs q = ys q) : RaisedAs s t ys := by
  rwa [← funext hx]

/-- After a change of other records than ports. -/
theorem RaisedAs.after (h : RaisedAs t u ys) (hp : t.ports = s.ports) (hl : t.lineTime = s.lineTime) : RaisedAs s u ys :=
  (RaisedAs.of_ports hp hl).trans h

/-! What it tells and what a port gains: by the notices alone, whatever a request's reception and its reply do to the links. -/

/-- An event raises these notices to each port, in this order, and does nothing else to the notices that it holds. -/
structure NoticesAs (s t : State) (xs : PortId → List (NoticeBody × Bool)) : Prop where
  ports : ∀ q, ∃ x : Port, x.urgent = (s.port q).urgent ∧ x.routine = (s.port q).routine ∧
    (t.port q).urgent = (x.raiseAll s.lineTime (xs q)).urgent ∧ (t.port q).routine = (x.raiseAll s.lineTime (xs q)).routine

/-- The state with other links: what a request's reception and its reply change. -/
structure LinkOnly (s t : State) : Prop where
  rest : t = { s with ports := t.ports }
  urgent : ∀ q, (t.port q).urgent = (s.port q).urgent
  routine : ∀ q, (t.port q).routine = (s.port q).routine

theorem LinkOnly.refl (s : State) : LinkOnly s s := ⟨rfl, fun _ => rfl, fun _ => rfl⟩

theorem linkOnly_setPort {p : PortId} {x : Port} (hu : x.urgent = (s.port p).urgent) (hr : x.routine = (s.port p).routine) :
    LinkOnly s (s.setPort p x) := by
  refine ⟨rfl, fun q => ?_, fun q => ?_⟩ <;> by_cases hq : q = p
  · subst hq; rw [setPort_port_same, hu]
  · rw [setPort_port_ne _ _ _ hq]
  · subst hq; rw [setPort_port_same, hr]
  · rw [setPort_port_ne _ _ _ hq]

theorem linkOnly_setRx (p : PortId) (rx : Receiver) : LinkOnly s (s.setRx p rx) := linkOnly_setPort rfl rfl

theorem linkOnly_reply (p : PortId) (kind : Byte) (result : Result) (body : ReplyBody) :
    LinkOnly s (s.reply p kind result body) := linkOnly_setPort rfl rfl

theorem LinkOnly.lineTime_eq (h : LinkOnly s t) : t.lineTime = s.lineTime := by rw [h.rest]

/-- Notices raised after a request's reception and before its reply. -/
theorem RaisedAs.noticesAs {v : State} (h : RaisedAs t u xs) (hs : LinkOnly s t) (ht : LinkOnly u v) : NoticesAs s v xs :=
  ⟨fun q => ⟨t.port q, hs.urgent q, hs.routine q, by rw [ht.urgent, h.ports, hs.lineTime_eq],
    by rw [ht.routine, h.ports, hs.lineTime_eq]⟩⟩

theorem Port.tells_of_notices {p q p' q' : Port} {body : NoticeBody} {urgent : Bool} (h : p.tells q body urgent)
    (hp : p'.urgent = p.urgent) (hu : q'.urgent = q.urgent) (hr : q'.routine = q.routine) : p'.tells q' body urgent := by
  simpa only [Port.tells, hp, hu, hr] using h

theorem Port.keys_of_notices {p p' : Port} (hu : p'.urgent = p.urgent) (hr : p'.routine = p.routine) : p'.keys = p.keys := by
  rw [Port.keys, hu, hr, Port.keys]

theorem NoticesAs.gained (h : NoticesAs s t xs) {q : PortId} (hn : ((xs q).map fun x => x.1.key).Nodup) :
    s.gained t q (xs q) := by
  obtain ⟨x, hu, hr, hu', hr'⟩ := h.ports q
  have hg := x.gains_raiseAll s.lineTime hn
  rw [State.gained, Port.gains, hu', hr', ← hu, ← hr, ← Port.keys_of_notices hu hr]
  exact hg

theorem NoticesAs.gainedBesideWatch (h : NoticesAs s t xs) {q : PortId} {zs : List (NoticeBody × Bool)}
    (hz : ((xs q).filter fun x => x.1.key.besideWatch) = zs) (hn : (zs.map fun x => x.1.key).Nodup) :
    s.gainedBesideWatch t q zs := by
  subst hz
  obtain ⟨x, hu, hr, hu', hr'⟩ := h.ports q
  have hg := x.gains_raiseAll_besideWatch s.lineTime hn
  have hk : (s.port q).besideWatch.keys = x.besideWatch.keys :=
    Port.keys_of_notices (by simp [Port.besideWatch, hu]) (by simp [Port.besideWatch, hr])
  rw [State.gainedBesideWatch, Port.gains, hk]
  simp only [Port.besideWatch, hu', hr', ← hu, ← hr] at hg ⊢
  exact hg

/-- A port is told of a notice that is raised once and is no VERDICT (R174). -/
theorem NoticesAs.tells (h : NoticesAs s t xs) {q : PortId} {body : NoticeBody} {urgent : Bool}
    (hx : (xs q).filter (fun x => x.1.key == body.key) = [(body, urgent)]) (hv : ∀ j a b, body ≠ .verdict j a b) :
    (s.port q).tells (t.port q) body urgent := by
  obtain ⟨x, hu, hr, hu', hr'⟩ := h.ports q
  obtain ⟨held, -, -, htell⟩ := x.tells_raiseAll s.lineTime hx
  rw [NoticeBody.coalesce_body held body hv] at htell
  exact Port.tells_of_notices htell hu.symm hu' hr'

/-- A port is told of a change of verdict, from the verdict first left (R126, R176). -/
theorem NoticesAs.tells_verdict (h : NoticesAs s t xs) {q : PortId} {j : SpanId} {before after : Verdict} {urgent : Bool}
    (hx : (xs q).filter (fun x => x.1.key == .verdict j) = [(.verdict j before after, urgent)]) :
    ∃ b, (s.port q).tells (t.port q) (.verdict j b after) urgent ∧ (NoticeKey.verdict j ∉ (s.port q).keys → b = before) := by
  obtain ⟨x, hu, hr, hu', hr'⟩ := h.ports q
  obtain ⟨held, hk, hnew, htell⟩ := x.tells_raiseAll (body := .verdict j before after) s.lineTime hx
  have htell' := fun {b} (h : x.tells (x.raiseAll s.lineTime (xs q)) b urgent) => Port.tells_of_notices h hu.symm hu' hr'
  rw [Port.keys_of_notices hu hr] at hnew
  cases held with
  | verdict i b a =>
    obtain rfl : i = j := by simpa [NoticeBody.key] using hk
    refine ⟨b, htell' htell, fun hnot => ?_⟩
    have := hnew hnot
    simp only [NoticeBody.verdict.injEq] at this
    exact this.2.1
  | _ => cases hk

/-! Notices to the ends of a span. -/

theorem NoticeBody.coalesce_self (body : NoticeBody) : body.coalesce body = body := by cases body <;> rfl

theorem NoticeBody.coalesce_coalesce (held raised : NoticeBody) : (held.coalesce raised).coalesce raised = held.coalesce raised := by
  cases held <;> cases raised <;> rfl

theorem updateHeld_updateHeld (body : NoticeBody) (part : List Notice) :
    updateHeld body (updateHeld body part) = updateHeld body part := by
  simp only [updateHeld, List.map_map]
  refine List.map_congr_left fun n _ => ?_
  by_cases hk : n.key = body.key
  · have hk' : (n.coalesce body).key = body.key := NoticeBody.coalesce_key n.body body hk
    have hc : (n.coalesce body).coalesce body = n.coalesce body :=
      congrArg (fun b => (⟨b, n.raisedAt⟩ : Notice)) (NoticeBody.coalesce_coalesce n.body body)
    simp only [Function.comp, if_pos hk, if_pos hk', hc]
  · simp [hk]

theorem holdsKey_updateHeld (key : NoticeKey) (body : NoticeBody) (part : List Notice) :
    holdsKey key (updateHeld body part) = holdsKey key part := by
  have h : ∀ xs : List Notice, holdsKey key xs = (xs.map Notice.key).any (· == key) := fun xs => by
    simp [holdsKey, Function.comp_def]
  rw [h, h, updateHeld_keys]

/-- A notice raised twice in a row is raised once: the second raising updates it to what it is (R176). -/
theorem Port.raise_raise (p : Port) (body : NoticeBody) (urgent : Bool) (now : LineTime) :
    (p.raise body urgent now).raise body urgent now = p.raise body urgent now := by
  have hnew : updateHeld body [⟨body, now⟩] = [⟨body, now⟩] := by
    simp [updateHeld, Notice.key, Notice.coalesce, NoticeBody.coalesce_self]
  have hkey : holdsKey body.key [(⟨body, now⟩ : Notice)] = true := by simp [holdsKey, Notice.key]
  have hmap : ∀ xs ys : List Notice, updateHeld body (xs ++ ys) = updateHeld body xs ++ updateHeld body ys :=
    fun _ _ => List.map_append
  by_cases hu : holdsKey body.key p.urgent = true
  · have h1 : p.raise body urgent now = p.withNotices (updateHeld body p.urgent) p.routine := if_pos hu
    have h2 : holdsKey body.key (updateHeld body p.urgent) = true := by rw [holdsKey_updateHeld, hu]
    rw [h1, Port.raise, Port.withNotices_urgent, if_pos h2, updateHeld_updateHeld]
    rfl
  · have hu' : updateHeld body p.urgent = p.urgent := updateHeld_of_notHeld (by simpa using hu)
    by_cases hr : holdsKey body.key p.routine = true
    · cases urgent with
      | true =>
        have h1 : p.raise body true now = p.withNotices (p.urgent ++ updateHeld body
            (p.routine.filter (fun n => n.key == body.key))) (dropKey body.key p.routine) := by
          rw [Port.raise, if_neg hu, if_pos hr, if_pos rfl]
        have h2 : holdsKey body.key (p.urgent ++ updateHeld body (p.routine.filter (fun n => n.key == body.key))) = true := by
          rw [holdsKey_append, holdsKey_updateHeld]
          obtain ⟨n, hn, hk⟩ := (holdsKey_iff _ _).mp hr
          have hf : holdsKey body.key (p.routine.filter (fun n => n.key == body.key)) = true :=
            (holdsKey_iff _ _).mpr ⟨n, List.mem_filter.mpr ⟨hn, by simpa using hk⟩, hk⟩
          rw [hf, Bool.or_true]
        rw [h1, Port.raise, Port.withNotices_urgent, if_pos h2, hmap, hu', updateHeld_updateHeld]
        rfl
      | false =>
        have h1 : p.raise body false now = p.withNotices p.urgent (updateHeld body p.routine) := by
          rw [Port.raise, if_neg hu, if_pos hr, if_neg (by simp)]
        have h2 : holdsKey body.key (updateHeld body p.routine) = true := by rw [holdsKey_updateHeld, hr]
        rw [h1, Port.raise, Port.withNotices_urgent, Port.withNotices_routine, if_neg hu, if_pos h2, if_neg (by simp),
          updateHeld_updateHeld]
        rfl
    · have hr' : updateHeld body p.routine = p.routine := updateHeld_of_notHeld (by simpa using hr)
      cases urgent with
      | true =>
        have h1 : p.raise body true now = p.withNotices (p.urgent ++ [⟨body, now⟩]) p.routine := by
          rw [Port.raise, if_neg hu, if_neg hr, if_pos rfl]
        have h2 : holdsKey body.key (p.urgent ++ [⟨body, now⟩]) = true := by rw [holdsKey_append, hkey, Bool.or_true]
        rw [h1, Port.raise, Port.withNotices_urgent, if_pos h2, hmap, hu', hnew]
        rfl
      | false =>
        have h1 : p.raise body false now = p.withNotices p.urgent (p.routine ++ [⟨body, now⟩]) := by
          rw [Port.raise, if_neg hu, if_neg hr, if_neg (by simp)]
        have h2 : holdsKey body.key (p.routine ++ [⟨body, now⟩]) = true := by rw [holdsKey_append, hkey, Bool.or_true]
        rw [h1, Port.raise, Port.withNotices_urgent, Port.withNotices_routine, if_neg hu, if_pos h2, if_neg (by simp), hmap,
          hr', hnew]
        rfl

theorem raiseToEnds_port {j : SpanId} {l : SpanLine} (hl : (s.span j).line = some l) (body : NoticeBody) (urgent : Bool)
    (q : PortId) : (s.raiseToEnds j body urgent).port q =
      (s.port q).raiseAll s.lineTime (if q = l.upstream ∨ q = j.downStation then [(body, urgent)] else []) := by
  rw [State.raiseToEnds, hl]
  simp only
  have hline : (s.raise l.upstream body urgent).lineTime = s.lineTime := rfl
  by_cases hd : q = j.downStation
  · rw [if_pos (.inr hd)]
    subst hd
    by_cases hu : j.downStation = l.upstream
    · rw [← hu] at hline ⊢
      rw [raise_port_same, raise_port_same, hline, Port.raise_raise, Port.raiseAll_cons, Port.raiseAll_nil]
    · rw [raise_port_same, raise_port_ne _ _ _ _ hu]
      rfl
  · by_cases hu : q = l.upstream
    · subst hu
      rw [if_pos (.inl rfl)]
      simp [hd]
    · rw [if_neg (by simp [hu, hd])]
      simp [hu, hd]

theorem raisedAs_raiseToEnds {j : SpanId} {l : SpanLine} (hl : (s.span j).line = some l)
    (body : NoticeBody) (urgent : Bool) : RaisedAs s (s.raiseToEnds j body urgent) fun q =>
      if q = l.upstream ∨ q = j.downStation then [(body, urgent)] else [] :=
  ⟨raiseToEnds_port hl body urgent, (noticesOnly_raiseToEnds s j body urgent).same.2.2.1⟩

theorem raisedAs_raiseSpan {j : SpanId} {l : SpanLine} (hl : (s.span j).line = some l)
    (event : SpanEvent) : RaisedAs s (s.raiseSpan j event) (spanNotices j l event (s.span j).state) :=
  raisedAs_raiseToEnds hl _ _

theorem raisedAs_announceVerdict {j : SpanId} {l : SpanLine} (hl : (s.span j).line = some l)
    (before : Verdict) :
    RaisedAs s (s.announceVerdict j before) (s.verdictNotices j l before) := by
  unfold State.announceVerdict
  by_cases h : (s.span j).verdict = before
  · rw [if_pos h]
    exact (RaisedAs.of_ports rfl rfl).congr fun q => by simp [State.verdictNotices, h]
  · rw [if_neg h]
    refine (raisedAs_raiseToEnds hl _ _).congr fun q => ?_
    simp [State.verdictNotices, h, beq_eq_decide]

theorem verdictNotices_congr {j : SpanId} (h : t.span j = s.span j) (l : SpanLine) (before : Verdict) :
    t.verdictNotices j l before = s.verdictNotices j l before := by
  funext q
  simp only [State.verdictNotices, h]

/-- The SPAN notice, then the VERDICT notice (R7, R126). -/
theorem raisedAs_raiseSpan_announceVerdict {j : SpanId} {l : SpanLine} (hl : (s.span j).line = some l)
    (event : SpanEvent) (before : Verdict) :
    RaisedAs s ((s.raiseSpan j event).announceVerdict j before) fun q =>
      spanNotices j l event (s.span j).state q ++ s.verdictNotices j l before q := by
  have h1 := raisedAs_raiseSpan hl event
  have hs := (noticesOnly_raiseSpan s j event).span_eq j
  have h2 := raisedAs_announceVerdict (s := s.raiseSpan j event) (by rw [hs]; exact hl) before
  rw [verdictNotices_congr hs] at h2
  exact h1.trans h2

/-- The VERDICT notice, then the SPAN notice (R15, R19). -/
theorem raisedAs_announceVerdict_raiseSpan {j : SpanId} {l : SpanLine} (hl : (s.span j).line = some l)
    (event : SpanEvent) (before : Verdict) :
    RaisedAs s ((s.announceVerdict j before).raiseSpan j event) fun q =>
      s.verdictNotices j l before q ++ spanNotices j l event (s.span j).state q := by
  have h1 := raisedAs_announceVerdict hl before
  have hs := (noticesOnly_announceVerdict s j before).span_eq j
  have h2 := raisedAs_raiseSpan (s := s.announceVerdict j before) (by rw [hs]; exact hl) event
  rw [hs] at h2
  exact h1.trans h2

/-! The STATION notice of a service change (R7). -/

theorem raisedAs_tellOther (st : StationId) (v : ServiceState) (p : PortId) :
    RaisedAs s (s.tellOther st v p) fun q =>
      if q = p ∧ q ≠ st ∧ s.isConfigured q = true then [(.station st v, false)] else [] := by
  unfold State.tellOther
  by_cases h : s.isConfigured p = true ∧ p ≠ st
  · rw [if_pos h]
    refine ⟨fun q => ?_, rfl⟩
    by_cases hq : q = p
    · subst hq
      rw [if_pos ⟨rfl, h.2, h.1⟩]
      simp
    · rw [if_neg (fun hc => hq hc.1)]
      simp [hq]
  · rw [if_neg h]
    refine (RaisedAs.of_ports rfl rfl).congr fun q => ?_
    rw [if_neg]
    rintro ⟨rfl, hq, hc⟩
    exact h ⟨hc, hq⟩

theorem raisedAs_tellOthers (st : StationId) (v : ServiceState) :
    RaisedAs s (s.tellOthers st v) fun q =>
      if q ≠ st ∧ s.isConfigured q = true then [(.station st v, false)] else [] := by
  have hc : ∀ (u : State) (p q : PortId), (u.tellOther st v p).isConfigured q = u.isConfigured q := fun u p q => by
    rw [State.isConfigured, (tellOther_noticesOnly u st v p).same.2.1]
    rfl
  have h0 := raisedAs_tellOther (s := s) st v 0
  have h1 := raisedAs_tellOther (s := s.tellOther st v 0) st v 1
  have h2 := raisedAs_tellOther (s := (s.tellOther st v 0).tellOther st v 1) st v 2
  have h3 := raisedAs_tellOther (s := ((s.tellOther st v 0).tellOther st v 1).tellOther st v 2) st v 3
  refine (((h0.trans h1).trans h2).trans h3).congr fun q => ?_
  simp only [hc]
  fin_cases q <;> simp

/-- A service change recorded and told. -/
theorem raisedAs_serviceTold (s : State) (st : StationId) (v : ServiceState) (e : Option LineTime) :
    RaisedAs s (s.serviceTold st v e) fun q =>
      if q ≠ st ∧ s.isConfigured q = true then [(.station st v, false)] else [] :=
  (raisedAs_tellOthers (s := s.recordService st v e) st v).after rfl rfl

/-- The notices as the statements write them, by the service state that the station is left in. -/
theorem stationNotices_eq {st : StationId} {v : ServiceState} (h : (t.station st).service = v) (q : PortId) :
    s.stationNotices t st q = if q ≠ st ∧ s.isConfigured q = true then [(.station st v, false)] else [] := by
  rw [State.stationNotices, h]

/-! The notices of samples: WATCH notices alone (R158). -/

/-- An event raises WATCH notices, all ROUTINE, and no other. -/
structure WatchRaised (s t : State) (ws : PortId → List (NoticeBody × Bool)) : Prop where
  raised : RaisedAs s t ws
  watch : ∀ q, ∀ x ∈ ws q, ∃ i v, x = (.watch i v, false)

theorem WatchRaised.of_ports (h : t.ports = s.ports) (hl : t.lineTime = s.lineTime) : WatchRaised s t fun _ => [] :=
  ⟨.of_ports h hl, fun _ _ hx => absurd hx List.not_mem_nil⟩

theorem WatchRaised.trans {ws vs : PortId → List (NoticeBody × Bool)} (h : WatchRaised s t ws) (k : WatchRaised t u vs) :
    WatchRaised s u fun q => ws q ++ vs q :=
  ⟨h.raised.trans k.raised, fun q x hx => (List.mem_append.1 hx).elim (h.watch q x) (k.watch q x)⟩

theorem WatchRaised.filter_besideWatch {ws : PortId → List (NoticeBody × Bool)} (h : WatchRaised s t ws) (q : PortId) :
    (ws q).filter (fun x => x.1.key.besideWatch) = [] := by
  rw [List.filter_eq_nil_iff]
  intro x hx
  obtain ⟨i, v, rfl⟩ := h.watch q x hx
  simp [NoticeBody.key, NoticeKey.besideWatch]

theorem WatchRaised.filter_key {ws : PortId → List (NoticeBody × Bool)} (h : WatchRaised s t ws) (q : PortId)
    {k : NoticeKey} (hk : k.besideWatch = true) : (ws q).filter (fun x => x.1.key == k) = [] := by
  rw [List.filter_eq_nil_iff]
  intro x hx
  obtain ⟨i, v, rfl⟩ := h.watch q x hx
  rw [beq_iff_eq]
  rintro rfl
  cases hk

theorem watchRaised_onOverflow (i : WatchId) (w : Watch) : ∃ ws, WatchRaised s (s.onOverflow i w) ws := by
  unfold State.onOverflow
  cases w.owner with
  | none => exact ⟨_, .of_ports rfl rfl⟩
  | some p =>
    have hraise : ∃ ws, WatchRaised s (if w.notify then s.raise p (.watch i w.value) false else s) ws := by
      split
      · refine ⟨fun q => if q = p then [(.watch i w.value, false)] else [], ⟨fun q => ?_, rfl⟩, fun q x hx => ?_⟩
        · by_cases hq : q = p
          · subst hq
            simp
          · simp [hq]
        · split at hx
          · exact ⟨i, w.value, List.mem_singleton.1 hx⟩
          · cases hx
      · exact ⟨_, .of_ports rfl rfl⟩
    obtain ⟨ws, hws⟩ := hraise
    simp only
    generalize (if w.notify then s.raise p (.watch i w.value) false else s) = v at hws
    split
    · exact ⟨_, hws.trans (.of_ports rfl rfl)⟩
    · exact ⟨ws, hws⟩

theorem watchRaised_offerTo (x : Sample) (i : WatchId) : ∃ ws, WatchRaised s (s.offerTo x i) ws := by
  unfold State.offerTo
  simp only
  split
  · split
    · obtain ⟨ws, hws⟩ := watchRaised_onOverflow (s := s.setWatch i ((s.watch i).take x.value)) i ((s.watch i).take x.value)
      exact ⟨_, (WatchRaised.of_ports (s := s) (t := s.setWatch i ((s.watch i).take x.value)) rfl rfl).trans hws⟩
    · exact ⟨_, .of_ports rfl rfl⟩
  · exact ⟨_, .of_ports rfl rfl⟩

theorem watchRaised_foldl {α : Type} {f : State → α → State} (hf : ∀ s a, ∃ ws, WatchRaised s (f s a) ws) (as : List α)
    (s : State) : ∃ ws, WatchRaised s (as.foldl f s) ws := by
  induction as generalizing s with
  | nil => exact ⟨_, .of_ports rfl rfl⟩
  | cons a as ih =>
    obtain ⟨ws, hws⟩ := hf s a
    obtain ⟨vs, hvs⟩ := ih (f s a)
    exact ⟨_, hws.trans hvs⟩

theorem watchRaised_offer (s : State) (x : Sample) : ∃ ws, WatchRaised s (s.offer x) ws :=
  watchRaised_foldl (fun _ i => watchRaised_offerTo x i) allWatches s

theorem watchRaised_offerAll (s : State) (xs : List Sample) : ∃ ws, WatchRaised s (s.offerAll xs) ws :=
  watchRaised_foldl watchRaised_offer xs s

theorem watchRaised_allocate (s : State) : ∃ ws, WatchRaised s s.allocate.2 ws := by
  have htake : ∀ u : State, u.takeFree.2.ports = u.ports ∧ u.takeFree.2.lineTime = u.lineTime := fun u => by
    unfold State.takeFree
    split <;> exact ⟨rfl, rfl⟩
  unfold State.allocate
  split
  · have hr : ∃ ws, WatchRaised s s.reclaim ws := by
      unfold State.reclaim
      split
      · rename_i head second rest _
        obtain ⟨ws, hws⟩ := watchRaised_offer ((s.setQueue s.fullest (head.join second :: rest)).setFree
          (s.free ++ [second.index])) ⟨.reclaims, 1, some s.fullest, none, none⟩
        exact ⟨_, (WatchRaised.of_ports (s := s) (t := (s.setQueue s.fullest (head.join second :: rest)).setFree
          (s.free ++ [second.index])) rfl rfl).trans hws⟩
      · exact ⟨_, .of_ports rfl rfl⟩
    obtain ⟨ws, hws⟩ := hr
    exact ⟨_, hws.trans (.of_ports (htake _).1 (htake _).2)⟩
  · exact ⟨_, .of_ports (htake _).1 (htake _).2⟩

theorem watchRaised_splitQueue (s : State) (k j : SpanId) (r : Nat) : ∃ ws, WatchRaised s (s.splitQueue k j r) ws := by
  unfold State.splitQueue
  split
  · exact ⟨_, .of_ports rfl rfl⟩
  · obtain ⟨ws, hws⟩ := watchRaised_allocate s
    simp only
    split
    · exact ⟨_, hws.trans (.of_ports rfl rfl)⟩
    · exact ⟨_, hws.trans (.of_ports rfl rfl)⟩

end

end Sys2Proof.Machine

end

section
/-! The lists of notices that the statements write, by key, and what the end ports of a span are told (R7, R126, R174). -/

namespace Sys2Proof.Machine

section
variable {s t : State} {j : SpanId} {l : SpanLine} {q : PortId} {k : NoticeKey}

theorem stationNotices_filter_ne {st : StationId} (hk : k ≠ .station st) :
    (s.stationNotices t st q).filter (fun x => x.1.key == k) = [] := by
  unfold State.stationNotices
  split
  · simp [NoticeBody.key, hk.symm]
  · rfl

theorem spanNotices_filter_ne {event : SpanEvent} {state : SpanState} (hk : k ≠ .span j) :
    (spanNotices j l event state q).filter (fun x => x.1.key == k) = [] := by
  unfold spanNotices
  split
  · simp [NoticeBody.key, hk.symm]
  · rfl

theorem spanNotices_filter_self {event : SpanEvent} {state : SpanState} (hq : q = l.upstream ∨ q = j.downStation) :
    (spanNotices j l event state q).filter (fun x => x.1.key == .span j) = [(.span j event state, false)] := by
  rw [spanNotices, if_pos hq]
  simp [NoticeBody.key]

theorem verdictNotices_filter_ne {before : Verdict} (hk : k ≠ .verdict j) :
    (t.verdictNotices j l before q).filter (fun x => x.1.key == k) = [] := by
  unfold State.verdictNotices
  split
  · simp [NoticeBody.key, hk.symm]
  · rfl

theorem verdictNotices_filter_self {before : Verdict} (hq : q = l.upstream ∨ q = j.downStation)
    (hv : (t.span j).verdict ≠ before) : (t.verdictNotices j l before q).filter (fun x => x.1.key == .verdict j) =
      [(.verdict j before (t.span j).verdict, decide ((t.span j).verdict = .leak))] := by
  rw [State.verdictNotices, if_pos ⟨hq, hv⟩]
  simp [NoticeBody.key]

theorem stationNotices_keys {st : StationId} :
    ((s.stationNotices t st q).map fun x => x.1.key).Sublist [.station st] := by
  unfold State.stationNotices
  split <;> simp [NoticeBody.key]

theorem spanNotices_keys {event : SpanEvent} {state : SpanState} :
    ((spanNotices j l event state q).map fun x => x.1.key).Sublist [.span j] := by
  unfold spanNotices
  split <;> simp [NoticeBody.key]

theorem verdictNotices_keys {before : Verdict} :
    ((t.verdictNotices j l before q).map fun x => x.1.key).Sublist [.verdict j] := by
  unfold State.verdictNotices
  split <;> simp [NoticeBody.key]

/-- Keys of runs with other keys each do not repeat. -/
theorem keys_nodup {xs : List (NoticeBody × Bool)} {ks : List NoticeKey} (h : (xs.map fun x => x.1.key).Sublist ks)
    (hk : ks.Nodup) : (xs.map fun x => x.1.key).Nodup := hk.sublist h

theorem keys_append {xs ys : List (NoticeBody × Bool)} {ks ls : List NoticeKey}
    (hx : (xs.map fun x => x.1.key).Sublist ks) (hy : (ys.map fun x => x.1.key).Sublist ls) :
    ((xs ++ ys).map fun x => x.1.key).Sublist (ks ++ ls) := by
  rw [List.map_append]
  exact hx.append hy

variable {xs : PortId → List (NoticeBody × Bool)}

/-- Both ends are told of a SPAN notice that the event raises once. -/
theorem NoticesAs.endsTold (h : NoticesAs s t xs) {event : SpanEvent} {state : SpanState}
    (hx : ∀ q, q = l.upstream ∨ q = j.downStation →
      (xs q).filter (fun x => x.1.key == .span j) = [(.span j event state, false)]) :
    s.endsTold t j l (.span j event state) :=
  ⟨h.tells (body := .span j event state) (hx _ (.inl rfl)) (by simp),
    h.tells (body := .span j event state) (hx _ (.inr rfl)) (by simp)⟩

/-- Both ends are told of a change of verdict that the event raises once. -/
theorem NoticesAs.verdictTold (h : NoticesAs s t xs) {before : Verdict}
    (hx : ∀ q, (q = l.upstream ∨ q = j.downStation) →
      (xs q).filter (fun x => x.1.key == .verdict j) =
        (t.verdictNotices j l before q).filter (fun x => x.1.key == .verdict j)) :
    s.verdictTold t j l before := fun hv q hq =>
  h.tells_verdict ((hx q hq).trans (verdictNotices_filter_self hq hv))

end

end Sys2Proof.Machine

end

section
/-! Service changes (R4 to R7): the commands that take a station into and out of IN_SERVICE, and whom they tell. -/

namespace Sys2Proof.Machine

section
variable {s t u : State} {p : PortId}

/-! The commands. -/

theorem exec_stationIn_of_inService (h : s.takes p) (hin : s.inService p = true) :
    exec (.stationIn p) s = .next (s.answered p 0x02 .done .none) := by
  refine exec_requestRow_of_report (r := .stationIn) h ?_
  have hin' : (s.setRx p .hunt).inService p = true := hin
  rw [answerTo, answerStationIn, hin', if_pos rfl]
  rfl

theorem exec_stationIn_of_out (h : s.takes p) (hout : s.inService p = false) : exec (.stationIn p) s =
    .next (((s.setRx p .hunt).changeService p .inService (some (expiryAfter s.lineTime s.tStale))).reply p 0x02 .done
      .none) := by
  refine exec_requestRow_of_answer (r := .stationIn) (a := doneWith ((s.setRx p .hunt).changeService p .inService
    (some (expiryAfter s.lineTime s.tStale)))) h ?_
  have hout' : (s.setRx p .hunt).inService p = false := hout
  rw [answerTo, answerStationIn, hout', if_neg (by simp)]
  rfl

theorem exec_stationOut_of_out (h : s.takes p) (hout : (s.station p).service = .out) :
    exec (.stationOut p) s = .next (s.answered p 0x03 .done .none) := by
  refine exec_requestRow_of_report (r := .stationOut) h ?_
  rw [answerTo, answerStationOut, setRx_station, if_pos hout]
  rfl

theorem exec_stationOut_of_not_out (h : s.takes p) (hnot : (s.station p).service ≠ .out) : exec (.stationOut p) s =
    .next (((s.setRx p .hunt).changeService p .out none).reply p 0x03 .done .none) := by
  refine exec_requestRow_of_answer (r := .stationOut) (a := doneWith ((s.setRx p .hunt).changeService p .out none)) h ?_
  rw [answerTo, answerStationOut, setRx_station, if_neg hnot]

theorem exec_silenceExpiry_of_due {st : StationId} (hin : s.inService st = true)
    (hd : timerDue s.lineTime (s.station st).silence = true) :
    exec (.silenceExpiry st) s = .next (s.changeService st .stale none) := congrArg _ (if_pos ⟨hin, hd⟩)

/-! An answered request's own port, and the other links. -/

theorem answered_links (h : ∀ q, (u.port q).linkOf = ((s.setRx p .hunt).port q).linkOf) (kind : Byte) (result : Result)
    (body : ReplyBody) : s.sameLinksBut (u.reply p kind result body) p ∧
      s.repliedAt (u.reply p kind result body) p ⟨kind, result, body⟩ := by
  refine ⟨fun q hq => ?_, ?_⟩
  · rw [reply_port_ne (h := hq), h, setRx_port_ne _ _ _ hq]
  · have hp := h p
    rw [setRx_port_same] at hp
    simp only [Port.linkOf, Prod.mk.injEq] at hp
    obtain ⟨hrate, hrx, hreplies, htrip⟩ := hp
    rw [State.repliedAt, reply_port_same]
    simp [Port.linkOf, Port.reply, hrate, hrx, hreplies, htrip]

/-! What an answered request keeps: the reception and the reply reach its own port's link alone. -/

theorem answered_sameSetUp (h : (s.setRx p .hunt).sameSetUp u) (kind : Byte) (result : Result) (body : ReplyBody) :
    s.sameSetUp (u.reply p kind result body) := h

theorem answered_sameSegments (h : (s.setRx p .hunt).sameSegments u) (kind : Byte) (result : Result) (body : ReplyBody) :
    s.sameSegments (u.reply p kind result body) := h

theorem answered_sameStationsBut {st : StationId} (h : (s.setRx p .hunt).sameStationsBut u st) (kind : Byte)
    (result : Result) (body : ReplyBody) : s.sameStationsBut (u.reply p kind result body) st := h

theorem answered_sameSpans (h : (s.setRx p .hunt).sameSpans u) (kind : Byte) (result : Result) (body : ReplyBody) :
    s.sameSpans (u.reply p kind result body) := h

theorem answered_sameStore (h : (s.setRx p .hunt).sameStore u) (kind : Byte) (result : Result) (body : ReplyBody) :
    s.sameStore (u.reply p kind result body) := h

theorem answered_sameWatches (h : (s.setRx p .hunt).sameWatches u) (kind : Byte) (result : Result) (body : ReplyBody) :
    s.sameWatches (u.reply p kind result body) := h

/-! What a service change does to its station and to the set-up, and whom it tells of the station. -/

theorem changeService_station (st : StationId) (v : ServiceState) (e : Option LineTime) :
    (s.changeService st v e).station st = { s.station st with service := v, silence := e } ∧
      ∀ x, x ≠ st → (s.changeService st v e).station x = s.station x := by
  have h := changeService_engineOnly (s := s) st v e
  exact ⟨(h.station_eq st).trans (setStation_station_same _ _ _),
    fun x hx => (h.station_eq x).trans (setStation_station_ne _ _ _ hx)⟩

theorem changeService_sameSetUp (st : StationId) (v : ServiceState) (e : Option LineTime) :
    s.sameSetUp (s.changeService st v e) := (changeService_engineOnly st v e).sameSetUp

theorem changeService_sameSegments (st : StationId) (v : ServiceState) (e : Option LineTime) :
    s.sameSegments (s.changeService st v e) := fun k => (changeService_engineOnly st v e).segment_eq k

theorem changeService_linkOf (st : StationId) (v : ServiceState) (e : Option LineTime) (q : PortId) :
    ((s.changeService st v e).port q).linkOf = (s.port q).linkOf := (changeService_engineOnly st v e).link q

theorem changeService_lastGranted (st : StationId) (v : ServiceState) (e : Option LineTime) :
    (s.changeService st v e).lastGranted = s.lastGranted := (changeService_engineOnly (s := s) st v e).same.2.2

/-- A run of raisings of allowed keys, as a list for each port. -/
theorem Raises.raisedAs {P : PortId → NoticeKey → Prop} (h : Raises P s t) :
    ∃ xs, RaisedAs s t xs ∧ ∀ q, ∀ x ∈ xs q, P q x.1.key := by
  choose xs hx hp using h.ports
  exact ⟨xs, ⟨hp, h.setUp.lineTime_eq⟩, hx⟩

/-- The spans' part of a service change raises no STATION notice. -/
theorem raises_noStation (s : State) (st : StationId) (v : ServiceState) (e : Option LineTime) (x : StationId) :
    Raises (fun _ k => k ≠ .station x) (s.serviceTold st v e) (s.changeService st v e) := by
  have ha : Allows (fun _ k => k ≠ .station x) (s.serviceTold st v e) :=
    ⟨fun _ _ _ _ _ => ⟨by simp, by simp⟩, fun _ _ _ => ⟨by simp, by simp⟩, fun _ _ _ => by simp⟩
  rw [changeService_eq]
  split
  · exact raises_stationLeft st ha
  · split
    · exact raises_stationReturned st ha
    · exact .refl _

/-- Every other configured port is told of the station's new service state (R7). -/
theorem changeService_told {s0 : State} (st : StationId) (v : ServiceState) (e : Option LineTime) (hs : LinkOnly s s0)
    (ht : LinkOnly (s0.changeService st v e) t) {q : PortId} (hq : q ≠ st) (hc : s.isConfigured q = true) :
    s.told t q (.station st v) := by
  obtain ⟨xs, hxs, hkeys⟩ := (raises_noStation s0 st v e st).raisedAs
  have hall := ((raisedAs_serviceTold s0 st v e).trans hxs).noticesAs hs ht
  have hc0 : s0.isConfigured q = true := by rw [hs.rest]; exact hc
  refine hall.tells (body := .station st v) ?_ (by simp)
  have hnone : (xs q).filter (fun x => x.1.key == .station st) = [] := by
    rw [List.filter_eq_nil_iff]
    intro x hx
    simpa using hkeys q x hx
  simp only [if_pos (And.intro hq hc0)]
  have hkey : NoticeBody.key (.station st v) = .station st := rfl
  rw [hkey, List.filter_append, hnone, List.append_nil]
  simp [NoticeBody.key]

/-! Leaving service offers no sample. -/

theorem mergeOpen_watches (k j : SpanId) : (s.mergeOpen k j).watches = s.watches := by
  obtain ⟨-, -, -, -, -, -, -, -, hw, -⟩ := (mergeOpen_noticesOnly s k j).same
  rw [hw]
  have hbefore : (((s.divert k j).setSpan k Span.blank).setSpan j
      ((s.span j).mergedWith (s.span k) s.lineTime)).watches = s.watches := rfl
  generalize (((s.divert k j).setSpan k Span.blank).setSpan j
      ((s.span j).mergedWith (s.span k) s.lineTime)) = u at hbefore ⊢
  obtain ⟨-, -, hr, -⟩ := rederiveAll_store u
  exact hr.trans hbefore

theorem mergeClosed_watches (k j : SpanId) : (s.mergeClosed k j).watches = s.watches := by
  have hrelease : ∀ (u : State) (i : SpanId) (c : Prop) [Decidable c],
      (if c then u else u.release i).watches = u.watches := fun u i c _ => by
    split <;> rfl
  obtain ⟨-, -, -, -, -, -, -, -, hw, -⟩ := (mergeClosed_noticesOnly s k j _ _ rfl rfl).same
  have h1 := hrelease s k ((s.span k).state = .closed)
  generalize (if (s.span k).state = .closed then s else s.release k) = a at h1 hw
  have h2 := hrelease a j ((s.span j).state = .closed)
  generalize (if (s.span j).state = .closed then a else a.release j) = b at h2 hw
  obtain ⟨-, -, hr, -⟩ := rederiveAll_store ((b.setSpan k Span.blank).setSpan j (s.span j).closedOf)
  exact hw.trans (hr.trans (h2.trans h1))

theorem suspendSpan_watches (j : SpanId) : (s.suspendSpan j).watches = s.watches := by
  by_cases h : (s.span j).state = .opened
  · obtain ⟨-, -, -, -, -, -, -, -, hw, -⟩ := (suspendSpan_noticesOnly s j h).same
    exact hw
  · rw [State.suspendSpan, if_neg h]

theorem stationLeft_watches (st : StationId) : (s.stationLeft st).watches = s.watches := by
  unfold State.stationLeft
  split
  · split
    · rfl
    · exact suspendSpan_watches _
  · obtain ⟨he, -⟩ | ⟨k, j, -, -, he⟩ := mergeAt_cases s st <;> rw [he]
    split
    · exact mergeClosed_watches k j
    · exact mergeOpen_watches k j

theorem changeService_watches {v : ServiceState} (st : StationId) (hv : v ≠ .inService) (e : Option LineTime) :
    (s.changeService st v e).watches = s.watches := by
  obtain ⟨-, -, -, -, -, -, -, hw⟩ := serviceTold_same s st v e
  rw [changeService_eq]
  split
  · rw [stationLeft_watches, hw]
  · rw [if_neg (fun h => hv h.2), hw]

/-- A station that leaves a service it was not in reaches no span (R7). -/
theorem changeService_of_not_inService {st : StationId} (h : s.inService st = false) :
    s.sameSpans (s.changeService st .out none) ∧ s.sameStore (s.changeService st .out none) := by
  have he : s.changeService st .out none = s.serviceTold st .out none := by
    rw [changeService_eq, h, if_neg (by simp), if_neg (by simp)]
  obtain ⟨-, -, -, hf, hq, -⟩ := serviceTold_same s st .out none
  rw [he]
  exact ⟨serviceTold_span s st .out none, hf, fun j => queue_congr hq j⟩

theorem changeService_sameStationsBut (st : StationId) (v : ServiceState) (e : Option LineTime) :
    s.sameStationsBut (s.changeService st v e) st := ⟨changeService_lastGranted st v e, (changeService_station st v e).2⟩

theorem sameWatches_of_eq (h : t.watches = s.watches) : s.sameWatches t := fun i => by rw [State.watch, h]; rfl

end

end Sys2Proof.Machine

open Sys2Proof Sys2Proof.Machine

/-- Settles O7: the change keeps all but its station, the spans, the store and the watch counters, and tells the other ports
first. -/
theorem stationInTakesIntoService : Obligations.StationInTakesIntoService := by
  unfold Obligations.StationInTakesIntoService
  intro s p ht
  refine ⟨exec_stationIn_of_inService ht, fun hout => ?_⟩
  have hexec := exec_stationIn_of_out ht hout
  have hsame := (changeService_station (s := s.setRx p .hunt) p .inService (some (expiryAfter s.lineTime s.tStale))).1
  have hother := changeService_sameStationsBut (s := s.setRx p .hunt) p .inService (some (expiryAfter s.lineTime s.tStale))
  have hsetUp := changeService_sameSetUp (s := s.setRx p .hunt) p .inService (some (expiryAfter s.lineTime s.tStale))
  have hsegs := changeService_sameSegments (s := s.setRx p .hunt) p .inService (some (expiryAfter s.lineTime s.tStale))
  have hlinks := changeService_linkOf (s := s.setRx p .hunt) p .inService (some (expiryAfter s.lineTime s.tStale))
  have htold := fun {t q} => changeService_told (t := t) (q := q) p .inService (some (expiryAfter s.lineTime s.tStale))
    (linkOnly_setRx (s := s) p .hunt)
  generalize (s.setRx p .hunt).changeService p .inService (some (expiryAfter s.lineTime s.tStale)) = u at *
  obtain ⟨hlinks, hreplied⟩ := answered_links hlinks 0x02 .done .none
  exact ⟨_, hexec, hsame, answered_sameStationsBut hother _ _ _, answered_sameSetUp hsetUp _ _ _,
    answered_sameSegments hsegs _ _ _, hlinks, hreplied, fun q hq hc => htold (linkOnly_reply p _ _ _) hq hc⟩

/-- Settles O8: a station that leaves service, by its request or by its silence, offers no sample; one that was not IN_SERVICE
reaches no span. -/
theorem stationLeavesService : Obligations.StationLeavesService := by
  unfold Obligations.StationLeavesService
  refine ⟨fun s p ht => ⟨exec_stationOut_of_out ht, fun hnot => ?out⟩, fun s st hin hd => ?silence⟩
  case out =>
    have hexec := exec_stationOut_of_not_out ht hnot
    have hsame := (changeService_station (s := s.setRx p .hunt) p .out none).1
    have hother := changeService_sameStationsBut (s := s.setRx p .hunt) p .out none
    have hsetUp := changeService_sameSetUp (s := s.setRx p .hunt) p .out none
    have hsegs := changeService_sameSegments (s := s.setRx p .hunt) p .out none
    have hwatches := sameWatches_of_eq (changeService_watches (s := s.setRx p .hunt) (v := .out) p (by simp) none)
    have hlinks := changeService_linkOf (s := s.setRx p .hunt) p .out none
    have htold := fun {t q} => changeService_told (t := t) (q := q) p .out none (linkOnly_setRx (s := s) p .hunt)
    have hstill : s.inService p = false → (s.setRx p .hunt).sameSpans ((s.setRx p .hunt).changeService p .out none) ∧
        (s.setRx p .hunt).sameStore ((s.setRx p .hunt).changeService p .out none) :=
      changeService_of_not_inService (s := s.setRx p .hunt)
    generalize (s.setRx p .hunt).changeService p .out none = u at *
    obtain ⟨hlinks, hreplied⟩ := answered_links hlinks 0x03 .done .none
    exact ⟨_, hexec, hsame, answered_sameStationsBut hother _ _ _, answered_sameSetUp hsetUp _ _ _,
      answered_sameSegments hsegs _ _ _, hlinks, answered_sameWatches hwatches _ _ _, hreplied,
      fun q hq hc => htold (linkOnly_reply p _ _ _) hq hc,
      fun hout => ⟨answered_sameSpans (hstill hout).1 _ _ _, answered_sameStore (hstill hout).2 _ _ _⟩⟩
  case silence =>
    obtain ⟨hsame, hother⟩ := changeService_station (s := s) st .stale none
    exact ⟨_, exec_silenceExpiry_of_due hin hd, hsame, ⟨changeService_lastGranted _ _ _, hother⟩,
      changeService_sameSetUp _ _ _, changeService_sameSegments _ _ _, changeService_linkOf _ _ _,
      sameWatches_of_eq (changeService_watches st (by simp) none),
      fun q hq hc => changeService_told st .stale none (.refl s) (.refl _) hq hc⟩

end

section
/-! SUPPORT. The bytes of a reply and of its frame: the link check taken bit by bit, the codes by their places, and the layouts of
the reply tables. -/

namespace Sys2Proof.Machine

/-! The link check, bit by bit (R166). -/

/-- One bit taken into the link check, most significant first. -/
def crc16Step (c : BitVec 16) (bit : Bool) : BitVec 16 :=
  if c.msb = bit then c <<< 1 else (c <<< 1) ^^^ 0x1021#16

/-- A shift of the check with data bits joined to it takes the first of them in and keeps the others joined. -/
theorem crc16Bit_xor (c x : BitVec 16) : crc16Bit (c ^^^ x) = crc16Step c x.msb ^^^ (x <<< 1) := by
  unfold crc16Bit crc16Step
  rw [BitVec.msb_xor, BitVec.shiftLeft_xor_distrib]
  cases c.msb <;> cases x.msb <;> simp [BitVec.xor_assoc, BitVec.xor_comm (x <<< 1)]

/-- n shifts take the first n joined bits in. -/
theorem crc16Bit_repeat (c x : BitVec 16) (n : Nat) :
    Nat.repeat crc16Bit n (c ^^^ x) = ((List.range n).map x.getMsbD).foldl crc16Step c ^^^ (x <<< n) := by
  induction n with
  | zero => simp [Nat.repeat]
  | succ n ih =>
    rw [Nat.repeat, ih, crc16Bit_xor, BitVec.msb_shiftLeft, ← BitVec.shiftLeft_add]
    simp [List.range_succ]

/-- The bits of a byte, most significant first, are those of its place at the top of the check. -/
theorem topByte_bits (b : Byte) :
    (List.range 8).map (b.setWidth 16 <<< 8).getMsbD = (List.range 8).map (fun i => b.getLsbD (7 - i)) := by
  refine List.map_congr_left fun i hi => ?_
  have hi : i < 8 := List.mem_range.mp hi
  rw [BitVec.getMsbD_eq_getLsbD, BitVec.getLsbD_shiftLeft, BitVec.getLsbD_setWidth]
  have h : 16 - 1 - i - 8 = 7 - i := by omega
  have h1 : i < 16 := by omega
  have h2 : ¬ 16 - 1 - i < 8 := by omega
  rw [h]
  simp only [h1, h2, show 16 - 1 - i < 16 by omega, show 7 - i < 16 by omega, decide_true, decide_false, Bool.not_false,
    Bool.true_and]

theorem crc16Byte_eq (c : BitVec 16) (b : Byte) :
    crc16Byte c b = ((List.range 8).map (fun i => b.getLsbD (7 - i))).foldl crc16Step c := by
  have h : (b.setWidth 16 <<< 8) <<< 8 = 0#16 := by
    rw [← BitVec.shiftLeft_add]
    exact BitVec.shiftLeft_eq_zero (by decide)
  rw [crc16Byte, crc16Bit_repeat, topByte_bits, h, BitVec.xor_zero]

theorem crc16_eq_bits (bytes : List Byte) : crc16 bytes =
    (bytes.flatMap (fun b => (List.range 8).map (fun i => b.getLsbD (7 - i)))).foldl crc16Step 0xFFFF#16 := by
  rw [List.foldl_flatMap]
  exact congrArg (fun f => bytes.foldl f crc16Init) (funext fun c => funext fun b => crc16Byte_eq c b)

theorem crc16_concat (bytes : List Byte) (b : Byte) : crc16 (bytes ++ [b]) = crc16Byte (crc16 bytes) b := by
  simp [crc16]

/-- A check is its high byte and its low byte. -/
theorem check_halves (c : BitVec 16) : (c >>> 8).setWidth 8 ++ c.setWidth 8 = c := by
  ext i hi
  rw [BitVec.getElem_append]
  split
  · simp [BitVec.getLsbD_eq_getElem, hi]
  · next h =>
    have e : 8 + (i - 8) = i := by omega
    simp [BitVec.getElem_setWidth, e, BitVec.getLsbD_eq_getElem, hi]

/-! Runs of bytes, field by field. -/

@[simp] theorem laidOut_nil (bytes : List Byte) : laidOut [] bytes ↔ bytes = [] := Iff.rfl

/-- A byte at the front is a one-byte field of its value. -/
@[simp] theorem laidOut_cons_byte (v : Int) (fs : List Field) (b : Byte) (bytes : List Byte) :
    laidOut ((1, v) :: fs) (b :: bytes) ↔ b = BitVec.ofInt 8 v ∧ laidOut fs bytes := by
  simp [laidOut]

/-- A value in n bytes at the front is its field. -/
@[simp] theorem laidOut_cons_leBytes (n x : Nat) (fs : List Field) (bytes : List Byte) :
    laidOut ((n, (x : Int)) :: fs) (leBytes n x ++ bytes) ↔ laidOut fs bytes := by
  simp only [laidOut]
  rw [List.drop_append_of_le_length (by rw [leBytes_length]), List.drop_eq_nil_of_le (by rw [leBytes_length]),
    List.nil_append]
  refine and_iff_right fun i hi => ?_
  rw [List.getElem?_append_left (by rwa [leBytes_length])]
  exact (laidOut_leBytes n x).1 i hi

/-- A signed value in n bytes at the front is its field. -/
@[simp] theorem laidOut_cons_signedBytes (n : Nat) (x : Int) (fs : List Field) (bytes : List Byte) :
    laidOut ((n, x) :: fs) (signedBytes n x ++ bytes) ↔ laidOut fs bytes := by
  have hn : (signedBytes n x).length = n := leBytes_length _ _
  simp only [laidOut]
  rw [List.drop_append_of_le_length hn.ge, List.drop_eq_nil_of_le hn.le, List.nil_append]
  refine and_iff_right fun i hi => ?_
  rw [List.getElem?_append_left (by omega)]
  exact (laidOut_signedBytes n x).1 i hi

theorem byte_eq (x : Nat) : byte x = BitVec.ofInt 8 x := (BitVec.ofInt_natCast 8 x).symm

/-! Codes by their places (R186). -/

theorem result_code (x : Result) : (x.code.toNat : Int) = codeIn [.done, .full, .outOfService, .notParty, .notOwner, .noneFree,
    .late, .conflict, .mismatch, .endsNotReady, .wrongState, .outOfRange, .malformed, .unknownKind, .unconfigured,
    .notLatched, .noStation, .empty, .noSpan] x := by
  cases x <;> rfl

theorem serviceState_code (x : ServiceState) : x.code = BitVec.ofInt 8 (serviceCode x) := by cases x <;> rfl

theorem headState_code (x : HeadState) : x.code = BitVec.ofInt 8 (codeIn [HeadState.empty, .ready, .awaiting] x) := by
  cases x <;> rfl

theorem spanState_code (x : SpanState) : x.code = BitVec.ofInt 8 (spanStateCode x) := by cases x <;> rfl

theorem verdict_code (x : Verdict) : x.code = BitVec.ofInt 8 (verdictCode x) := by cases x <;> rfl

theorem readingClass_code (x : ReadingClass) :
    x.code = BitVec.ofInt 8 (codeIn [.idle, .flush, .fault, .low, .water, .slurry, .high] x) := by cases x <;> rfl

theorem bankMode_code (x : BankMode) : x.code = BitVec.ofInt 8 (codeIn [BankMode.refer, .limit] x) := by cases x <;> rfl

theorem spanEvent_code (x : SpanEvent) :
    x.code = BitVec.ofInt 8 (codeIn [.opened, .closed, .suspended, .resumed, .merged, .split, .newEpoch] x) := by
  cases x <;> rfl

theorem settingsEvent_code (x : SettingsEvent) :
    x.code = BitVec.ofInt 8 (codeIn [.proposed, .applied, .expired, .withdrawn] x) := by cases x <;> rfl

theorem proposalOutcome_code (x : ProposalOutcome) : x.code = BitVec.ofInt 8 (codeIn [.recorded, .replaced, .applied] x) := by
  cases x <;> rfl

theorem watchSource_code (x : WatchSource) :
    x.code = BitVec.ofInt 8 (codeIn [WatchSource.updateDeficit, .updateExcess, .occupancy, .updates, .shortfall, .exitAge,
      .exitSolids, .inflowVelocity, .reclaims, .resolves] x) := by
  cases x <;> rfl

theorem watchMode_code (x : WatchMode) :
    x.code = BitVec.ofInt 8 (codeIn [WatchMode.add, .atLeast, .below, .onsets] x) := by cases x <;> rfl

theorem configState_code (x : ConfigState) : x.code = BitVec.ofInt 8 (if x = .configured then 0 else 1) := by
  cases x <;> rfl

/-! Layouts of the records that replies carry (R188, R189). -/

theorem statusFields_laidOut (x : StationStatus) : laidOut (statusFields x) x.bytes := by
  simp [statusFields, StationStatus.bytes, serviceState_code, headState_code, byte_eq]

theorem settingsFields_laidOut (x : Settings) : laidOut (settingsFields x) x.bytes := by
  simp [settingsFields, Settings.bytes, laidOut_leBytes]

theorem bankFields_laidOut (x : Bank) :
    laidOut [(2, x.rhoW), (2, x.rhoS), (2, x.cMax), (1, x.deltaW), (2, x.kQ), (1, codeIn [BankMode.refer, .limit] x.mode)]
      x.bytes := by
  simp [Bank.bytes, bankMode_code]

theorem parcelFields_laidOut (p : Parcel) : laidOut (parcelFields p) p.bytes := by
  simp [parcelFields, Parcel.bytes, byte_eq, Flags.code, flagByte, laidOut_leBytes]

theorem parcelsFields_laidOut (ps : List Parcel) : laidOut (ps.flatMap parcelFields) (ps.flatMap Parcel.bytes) := by
  induction ps with
  | nil => rfl
  | cons p ps ih => exact laidOut_append (parcelFields_laidOut p) ih

theorem optionalTime_eq (x : Option LineTime) : optionalTime x = (x.getD 0).toNat := by cases x <;> rfl

theorem spanReportFields_laidOut (r : SpanReport) : laidOut (spanReportFields r) r.bytes := by
  unfold SpanReport.bytes
  simp only [List.append_assoc]
  simp [spanReportFields, byte_eq, spanState_code, verdict_code, optionalTime_eq, SpanReport.indicators]

/-- The code of an owner (R186). -/
theorem ownerCode_eq (p : Option PortId) : ownerCode p = BitVec.ofInt 8 (match p with | none => 0xFF | some p => p.val) := by
  cases p with
  | none => rfl
  | some p => exact byte_eq _

/-- The code of a span id, 0 for none (R186). -/
theorem spanIdByte_eq (j : Option SpanId) : spanIdByte j = BitVec.ofInt 8 (match j with | none => 0 | some j => j.num) := by
  cases j with
  | none => rfl
  | some j => exact byte_eq _

theorem filterCode_eq (j : Option SpanId) : filterCode j = BitVec.ofInt 8 (match j with | none => 0 | some j => j.num) :=
  spanIdByte_eq j

theorem watchFields_laidOut (w : Watch) : laidOut (watchFields w) w.bytes := by
  simp only [watchFields, Watch.bytes, List.cons_append, List.nil_append, List.append_assoc, laidOut_cons_byte,
    laidOut_cons_signedBytes]
  exact ⟨by simp [byte_eq], ownerCode_eq _, watchSource_code _, filterCode_eq _, by simp [byte_eq], watchMode_code _,
    by simp [byte_eq]⟩

theorem proposalFields_laidOut (q : Option Proposal) : laidOut (proposalFields q) (proposalBytes q) := by
  cases q with
  | none =>
    exact laidOut_append (laidOut_append (xs := [(1, 0), (1, 0)]) (a := [0, 0]) ⟨by simp, by simp [laidOut]⟩
      (settingsFields_laidOut ⟨0, 0, 0, 0, 0, 0, 0, 0, 0⟩)) (laidOut_leBytes 4 0)
  | some q =>
    exact laidOut_append (laidOut_append (laidOut_append (laidOut_nat 1) (laidOut_nat q.proposer.val))
      (settingsFields_laidOut q.settings)) (laidOut_leBytes 4 q.expiry.toNat)

theorem noticeHeadFields_laidOut (b : NoticeBody) : laidOut (noticeHeadFields b) [b.key.kindCode, b.key.keyCode] := by
  cases b <;> simp [noticeHeadFields, NoticeBody.key, NoticeKey.kindCode, NoticeKey.keyCode, byte_eq]

theorem noticeFields_laidOut (b : NoticeBody) : laidOut (noticeFields b) b.bytes := by
  cases b with
  | resolve st tag cls rhoM v bank => simp [noticeFields, NoticeBody.bytes, readingClass_code, byte_eq]
  | verdict j before after => simp [noticeFields, NoticeBody.bytes, verdict_code, byte_eq]
  | span j event state => simp [noticeFields, NoticeBody.bytes, spanEvent_code, spanState_code, byte_eq]
  | settings k event => simp [noticeFields, NoticeBody.bytes, settingsEvent_code, byte_eq]
  | watch i value => exact laidOut_append (laidOut_nat i.val) (laidOut_signedBytes 6 value)
  | station st service => simp [noticeFields, NoticeBody.bytes, serviceState_code, byte_eq]

/-- The head of a STATUS reply: family, revision, configuration state, line time and N. -/
theorem statusHead_laidOut (config : ConfigState) (now : LineTime) (n : Nat) :
    laidOut [(2, 0x2C41), (1, 0x01), (1, if config = .configured then 0 else 1), (4, now.toNat), (1, n)]
      (familyBytes ++ [config.code] ++ leBytes 4 now.toNat ++ [byte n]) := by
  have h := (laidOut_cons_leBytes 2 0x2C41 [(1, 0x01), (1, if config = .configured then 0 else 1), (4, now.toNat), (1, n)]
    ([0x01] ++ [config.code] ++ leBytes 4 now.toNat ++ [byte n])).mpr (by simp [configState_code, byte_eq])
  simpa [familyBytes] using h

theorem statusTail_laidOut (free : Nat) (present : Trio Bool) :
    laidOut [(2, free), (1, 2 * present.s1.toNat + 4 * present.s2.toNat + 8 * present.s3.toNat)]
      (leBytes 2 free ++ [presentByte present]) := by
  simp [presentByte, byte_eq]

/-- A notice's head, its urgency, the line time raised, and the number left. -/
theorem noticeReplyHead_laidOut (x : Notice) (urgent : Bool) (left : Nat) :
    laidOut (noticeHeadFields x.body ++ ([(1, urgent.toNat), (4, x.raisedAt.toNat), (1, left)] : List Field))
      ([x.key.kindCode, x.key.keyCode, byte urgent.toNat] ++ leBytes 4 x.raisedAt.toNat ++ [byte left]) := by
  have h : laidOut [(1, urgent.toNat), (4, x.raisedAt.toNat), (1, left)]
      (byte urgent.toNat :: (leBytes 4 x.raisedAt.toNat ++ [byte left])) := by simp [byte_eq]
  simpa [Notice.key] using laidOut_append (noticeHeadFields_laidOut x.body) h

/-- What a reply carries is laid out as the tables of R188 and R189 say. -/
theorem replyFields_laidOut (body : ReplyBody) : laidOut (replyFields body) body.bytes := by
  cases body with
  | none => rfl
  | status config now n sts free present =>
    have h := laidOut_append (laidOut_append (laidOut_append (laidOut_append (laidOut_append
      (statusHead_laidOut config now n) (statusFields_laidOut sts.p0)) (statusFields_laidOut sts.p1))
      (statusFields_laidOut sts.p2)) (statusFields_laidOut sts.p3)) (statusTail_laidOut free present)
    simpa [replyFields, ReplyBody.bytes] using h
  | tag x => exact laidOut_byte x
  | bank st b active x =>
    exact laidOut_append (laidOut_append (laidOut_nat st.val) (laidOut_append (laidOut_nat b.val) (laidOut_nat active.val)))
      (bankFields_laidOut x)
  | span r => exact spanReportFields_laidOut r
  | parcels j n start now ps =>
    have h : laidOut [(1, j.num), (2, n), (2, start), (1, ps.length), (4, now.toNat)]
        ([byte j.num] ++ leBytes 2 n ++ leBytes 2 start ++ [byte ps.length] ++ leBytes 4 now.toNat) := by
      simp [byte_eq, laidOut_leBytes]
    have h := laidOut_append h (parcelsFields_laidOut ps)
    simpa [replyFields, ReplyBody.bytes] using h
  | outcome x => simp [replyFields, ReplyBody.bytes, proposalOutcome_code]
  | segment k x area vSeg j q =>
    have h : laidOut [(4, area), (4, vSeg), (1, match j with | none => 0 | some j => j.num)] (leBytes 4 area ++ leBytes 4 vSeg ++ [spanIdByte j]) :=
      laidOut_append (laidOut_append (laidOut_leBytes 4 area) (laidOut_leBytes 4 vSeg))
        ((laidOut_cons_byte _ [] _ _).mpr ⟨spanIdByte_eq j, rfl⟩)
    have h := laidOut_append (laidOut_append (laidOut_append (laidOut_nat k.num) (settingsFields_laidOut x)) h)
      (proposalFields_laidOut q)
    simp only [replyFields, ReplyBody.bytes, List.append_assoc] at h ⊢
    exact h
  | index i => exact laidOut_nat i.val
  | watch i w => exact laidOut_append (laidOut_nat i.val) (watchFields_laidOut w)
  | owned count => exact laidOut_nat count
  | notice x urgent left => exact laidOut_append (noticeReplyHead_laidOut x urgent left) (noticeFields_laidOut x.body)

/-! Lengths. -/

@[simp] theorem length_signedBytes (n : Nat) (x : Int) : (signedBytes n x).length = n := leBytes_length _ _

theorem settings_bytes_length (x : Settings) : x.bytes.length = 22 := by simp [Settings.bytes, leBytes_length]

theorem parcels_bytes_length (ps : List Parcel) : (ps.flatMap Parcel.bytes).length = 18 * ps.length := by
  induction ps with
  | nil => rfl
  | cons p ps ih =>
    rw [List.flatMap_cons, List.length_append, ih]
    simp [Parcel.bytes, leBytes_length]
    omega

theorem parcelList_bytes_length (j : SpanId) (n start : Nat) (now : LineTime) (ps : List Parcel) :
    (ReplyBody.parcels j n start now ps).bytes.length = 10 + 18 * ps.length := by
  simp only [ReplyBody.bytes, List.length_append, parcels_bytes_length, leBytes_length, List.length_singleton]

theorem spanReport_bytes_length (r : SpanReport) : r.bytes.length = 119 := by
  unfold SpanReport.bytes
  simp only [List.length_append]
  simp [leBytes_length]

theorem proposalBytes_length (q : Option Proposal) : (proposalBytes q).length = 28 := by
  cases q with
  | none => rfl
  | some q => simp [proposalBytes, settings_bytes_length, leBytes_length]

/-- The length of a notice's payload by its kind (R189). -/
def NoticeBody.length (b : NoticeBody) : Nat :=
  match b with
  | .resolve _ _ _ _ _ _ => 9
  | .verdict _ _ _ | .span _ _ _ => 3
  | .settings _ _ | .station _ _ => 2
  | .watch _ _ => 7

theorem notice_bytes_length (b : NoticeBody) : b.bytes.length = b.length := by
  cases b <;> simp [NoticeBody.bytes, NoticeBody.length, leBytes_length]

/-- A reply's frame is its head, its code, its payload and the halves of its check, low byte first (R166, R186). -/
theorem reply_frame_eq (r : Reply) : ∃ lo hi : Byte,
    r.frame = [0xC5, BitVec.ofNat 8 (r.body.bytes.length + 2), r.kind + 0x80, r.result.code] ++ r.body.bytes ++ [lo, hi] ∧
      hi ++ lo = crc16 ([BitVec.ofNat 8 (r.body.bytes.length + 2), r.kind + 0x80, r.result.code] ++ r.body.bytes) :=
  ⟨_, _, rfl, check_halves _⟩

end Sys2Proof.Machine

open Sys2Proof Sys2Proof.Machine

/-- Settles O54: the link check bit by bit, then each record's layout and length, record by record. -/
theorem replyFramesHaveTheirLayout : Obligations.ReplyFramesHaveTheirLayout := by
  unfold Obligations.ReplyFramesHaveTheirLayout
  refine ⟨crc16_eq_bits, crc16_concat, result_code, replyFields_laidOut, reply_frame_eq, fun body => ?_⟩
  cases body with
  | none | tag | outcome | index | owned => rfl
  | status => simp [ReplyBody.bytes, familyBytes, StationStatus.bytes, leBytes_length]
  | bank => simp [ReplyBody.bytes, Bank.bytes, leBytes_length]
  | span r => exact spanReport_bytes_length r
  | parcels j n start now ps => exact parcelList_bytes_length j n start now ps
  | segment => simp [ReplyBody.bytes, settings_bytes_length, proposalBytes_length, leBytes_length]
  | watch => simp [ReplyBody.bytes, Watch.bytes]
  | notice x =>
    have h := notice_bytes_length x.body
    cases hb : x.body <;> simp_all [ReplyBody.bytes, NoticeBody.length, leBytes_length]
end

section
/-! SUPPORT. Requests as bytes: the fields of a payload are read back from their offsets, and every request is read back from its
kind and payload. -/

namespace Sys2Proof.Machine

/-! Reading fields back. -/

theorem leNat_leBytes (n x : Nat) : leNat (leBytes n x) = x % 256 ^ n := by
  induction n generalizing x with
  | zero => simp [leNat, leBytes, Nat.mod_one]
  | succ n ih =>
    rw [leBytes, leNat, ih, BitVec.toNat_ofNat]
    calc x % 256 + 256 * (x / 256 % 256 ^ n) = x % (256 * 256 ^ n) := Nat.mod_mul.symm
      _ = x % 256 ^ (n + 1) := by rw [pow_succ']

/-- A field that stands at the front is read as its value. -/
theorem fieldAt_leBytes (w n x : Nat) (bytes : List Byte) :
    fieldAt w (leBytes n x ++ bytes) 0 n = BitVec.ofNat w (x % 256 ^ n) := by
  rw [fieldAt, List.drop_zero, List.take_append_of_le_length (leBytes_length n x).ge,
    List.take_of_length_le (leBytes_length n x).le, leNat_leBytes]

/-- A byte that stands at the front is read as itself. -/
theorem fieldAt_byte (b : Byte) (bytes : List Byte) : fieldAt 8 (b :: bytes) 0 1 = b := by
  simp [fieldAt, leNat]

/-- A field behind a run of bytes is read from what follows the run. -/
theorem fieldAt_append (w : Nat) (a bytes : List Byte) (offset n : Nat) (h : a.length ≤ offset) :
    fieldAt w (a ++ bytes) offset n = fieldAt w bytes (offset - a.length) n := by
  rw [fieldAt, fieldAt, List.drop_append, List.drop_eq_nil_of_le h, List.nil_append]

/-- A field behind a byte. -/
theorem fieldAt_cons (w : Nat) (b : Byte) (bytes : List Byte) (offset n : Nat) :
    fieldAt w (b :: bytes) (offset + 1) n = fieldAt w bytes offset n := rfl

/-- A word of 8 n bits is read back from its n bytes. -/
theorem fieldAt_word (n : Nat) (x : BitVec (8 * n)) (bytes : List Byte) :
    fieldAt (8 * n) (leBytes n x.toNat ++ bytes) 0 n = x := by
  have h : x.toNat < 256 ^ n := by
    have := x.isLt
    rwa [pow_mul] at this
  rw [fieldAt_leBytes, Nat.mod_eq_of_lt h, BitVec.ofNat_toNat, BitVec.setWidth_eq]

theorem fieldAt_word16 (x : BitVec 16) (bytes : List Byte) : fieldAt 16 (leBytes 2 x.toNat ++ bytes) 0 2 = x :=
  fieldAt_word 2 x bytes

theorem fieldAt_word32_end (x : BitVec 32) : fieldAt 32 (leBytes 4 x.toNat) 0 4 = x := by
  simpa using fieldAt_word 4 x []

theorem fieldAt_word16_end (x : BitVec 16) : fieldAt 16 (leBytes 2 x.toNat) 0 2 = x := by
  simpa using fieldAt_word 2 x []

theorem fieldAt_word32 (x : BitVec 32) (bytes : List Byte) : fieldAt 32 (leBytes 4 x.toNat ++ bytes) 0 4 = x :=
  fieldAt_word 4 x bytes

theorem fieldAt_word48 (x : BitVec 48) : fieldAt 48 (leBytes 6 x.toNat) 0 6 = x := by
  simpa using fieldAt_word 6 x []

/-! The records that requests carry, read back (R186). -/

theorem settingsAt_cons (b : Byte) (bytes : List Byte) (offset : Nat) :
    settingsAt (b :: bytes) (offset + 1) = settingsAt bytes offset := by
  simp only [settingsAt, fieldAt_cons, Nat.add_right_comm offset 1]

theorem bankAt_cons (b : Byte) (bytes : List Byte) (offset : Nat) :
    bankAt (b :: bytes) (offset + 1) = bankAt bytes offset := by
  simp only [bankAt, fieldAt_cons, Nat.add_right_comm offset 1]

theorem watchAt_cons (b : Byte) (bytes : List Byte) (offset : Nat) :
    watchAt (b :: bytes) (offset + 1) = watchAt bytes offset := by
  simp only [watchAt, fieldAt_cons, Nat.add_right_comm offset 1]

theorem settingsAt_bytes (r : SettingsWire) : settingsAt r.bytes 0 = r := by
  have h : r.bytes = leBytes 2 r.length.toNat ++ (leBytes 2 r.dPipe.toNat ++ (leBytes 2 r.vC.toNat ++ (leBytes 4 r.tLeak.toNat ++
      (leBytes 4 r.tDrift.toNat ++ (leBytes 4 r.tDep.toNat ++ (leBytes 2 r.m.toNat ++ [r.nS, r.nC])))))) := by
    simp [SettingsWire.bytes]
  simp [h, settingsAt, fieldAt_append, leBytes_length, fieldAt_word16, fieldAt_word32, fieldAt_byte, fieldAt_cons]

theorem bankAt_bytes (r : BankWire) : bankAt r.bytes 0 = r := by
  simp [BankWire.bytes, bankAt, fieldAt_append, leBytes_length, fieldAt_word16, fieldAt_byte, fieldAt_cons]

theorem watchAt_bytes (r : WatchWire) : watchAt r.bytes 0 = r := by
  simp [WatchWire.bytes, watchAt, fieldAt_append, leBytes_length, fieldAt_word32, fieldAt_word48, fieldAt_byte, fieldAt_cons]

theorem readingFlagByte_flush (flush fault : Bool) : (readingFlagByte flush fault)[0] = flush := by
  cases flush <;> cases fault <;> rfl

theorem readingFlagByte_fault (flush fault : Bool) : (readingFlagByte flush fault)[1] = fault := by
  cases flush <;> cases fault <;> rfl

/-! The requests. -/

theorem settings_wire_length (r : SettingsWire) : r.bytes.length = 22 := by simp [SettingsWire.bytes, leBytes_length]

theorem bank_wire_length (r : BankWire) : r.bytes.length = 10 := by simp [BankWire.bytes, leBytes_length]

theorem watch_wire_length (r : WatchWire) : r.bytes.length = 15 := by simp [WatchWire.bytes, leBytes_length]

/-- A request's payload has the length that its kind allows (R187). -/
theorem payloadLength_kind (r : Request) : payloadLength r.kind = some r.payload.length := by
  cases r <;>
    simp [payloadLength, Request.kind, Request.payload, leBytes_length, settings_wire_length, bank_wire_length,
      watch_wire_length]

/-- A request is read back from its kind and payload (R187). -/
theorem parseRequest_payload (r : Request) : parseRequest r.kind r.payload = some r := by
  cases r with
  | reading v t rho flush fault =>
    simp [parseRequest, Request.kind, Request.payload, fieldAt_append, leBytes_length, fieldAt_word16, fieldAt_byte,
      readingFlagByte_flush, readingFlagByte_fault]
  | resolveAnswer tag mAns =>
    simp [parseRequest, Request.kind, Request.payload, fieldAt_cons, fieldAt_word32_end, fieldAt_byte]
  | bankWrite bank record =>
    simp [parseRequest, Request.kind, Request.payload, fieldAt_byte, bankAt_cons, bankAt_bytes]
  | spanOpen span cFill =>
    simp [parseRequest, Request.kind, Request.payload, fieldAt_cons, fieldAt_word16_end, fieldAt_byte]
  | parcelList span start count =>
    simp [parseRequest, Request.kind, Request.payload, fieldAt_append, leBytes_length, fieldAt_cons, fieldAt_word16,
      fieldAt_byte]
  | settingsPropose segment record | settingsAgree segment record =>
    simp [parseRequest, Request.kind, Request.payload, fieldAt_byte, settingsAt_cons, settingsAt_bytes]
  | watchSet index record =>
    simp [parseRequest, Request.kind, Request.payload, fieldAt_byte, watchAt_cons, watchAt_bytes]
  | bankRead station bank => simp [parseRequest, Request.kind, Request.payload, fieldAt_byte, fieldAt_cons]
  | bankSelect b | spanClose b | spanRead b | verdictClear b | settingsWithdraw b | settingsRead b | watchRead b
  | watchRelease b => simp [parseRequest, Request.kind, Request.payload, fieldAt_byte]
  | status | stationIn | stationOut | watchClaim | watchFreeze | watchThaw | noticeGet => rfl

/-- Of every kind that allows a length, some request is read. -/
theorem parseRequest_kind : ∀ kind : Byte, isRequestKind kind = true →
    (parseRequest kind []).map Request.kind = some kind := by
  decide +kernel

/-- The request kinds are the kinds of the requests (R187). -/
theorem isRequestKind_iff (kind : Byte) : isRequestKind kind = true ↔ ∃ r : Request, r.kind = kind := by
  constructor
  · intro h
    obtain ⟨r, -, hr⟩ := Option.map_eq_some_iff.mp (parseRequest_kind kind h)
    exact ⟨r, hr⟩
  · rintro ⟨r, rfl⟩
    simp [isRequestKind, payloadLength_kind]

/-- A request's payload is laid out as the fields of R187's table. -/
theorem requestFields_laidOut (r : Request) : laidOut (requestFields r) r.payload := by
  cases r with
  | reading v t rho flush fault =>
    have h : readingFlagByte flush fault = BitVec.ofInt 8 (flush.toNat + 2 * fault.toNat) := by
      cases flush <;> cases fault <;> rfl
    simp [requestFields, Request.payload, h]
  | settingsPropose segment record | settingsAgree segment record =>
    simp [requestFields, Request.payload, settingsWireFields, SettingsWire.bytes]
  | bankWrite bank record => simp [requestFields, Request.payload, BankWire.bytes]
  | watchSet index record => simp [requestFields, Request.payload, WatchWire.bytes, laidOut_leBytes]
  | _ => simp [requestFields, Request.payload, laidOut_leBytes]

/-- A check's two bytes, low byte first, are one field. -/
theorem check_laidOut (c : BitVec 16) : laidOut [(2, (c.toNat : Int))] [c.setWidth 8, (c >>> 8).setWidth 8] := by
  have h : [c.setWidth 8, (c >>> 8).setWidth 8] = leBytes 2 c.toNat := by
    simp only [leBytes, List.cons.injEq, and_true]
    constructor
    · exact BitVec.eq_of_toNat_eq (by simp)
    · exact BitVec.eq_of_toNat_eq (by simp [Nat.shiftRight_eq_div_pow])
  rw [h]
  exact laidOut_leBytes 2 c.toNat

/-- A request's frame is SYNC, LEN, its kind, its fields and its check (R164, R166, R186). -/
theorem requestFrame_laidOut (r : Request) :
    laidOut (([(1, 0xC5), (1, r.payload.length + 1), (1, r.kind.toNat)] : List Field) ++ requestFields r ++
      ([(2, (crc16 (BitVec.ofNat 8 (r.payload.length + 1) :: r.kind :: r.payload)).toNat)] : List Field)) r.frame := by
  have hhead : laidOut [(1, 0xC5), (1, r.payload.length + 1), (1, r.kind.toNat)]
      [syncByte, BitVec.ofNat 8 (r.payload.length + 1), r.kind] := by
    simp only [laidOut_cons_byte, laidOut_nil, and_true]
    exact ⟨rfl, (BitVec.ofInt_natCast 8 (r.payload.length + 1)).symm, by simp⟩
  exact laidOut_append (laidOut_append hhead (requestFields_laidOut r)) (check_laidOut _)

end Sys2Proof.Machine

open Sys2Proof Sys2Proof.Machine

/-- Settles O52: each request's payload is laid out as its fields and read back from their offsets. -/
theorem payloadsAreReadBack : Obligations.PayloadsAreReadBack := by
  unfold Obligations.PayloadsAreReadBack
  refine ⟨fun r => ⟨payloadLength_kind r, parseRequest_payload r⟩, isRequestKind_iff,
    fun r => ⟨requestFields_laidOut r, requestFrame_laidOut r⟩, fun r => ?_⟩
  cases r <;> rfl
end

section
/-! SUPPORT. The receiver of a port: what each byte does to it, and what the bytes of a whole frame come to (R164 to R167). -/

namespace Sys2Proof.Machine

section
variable {s : State} {p : PortId} {b : Byte} {data : List Byte} {check : BitVec 16}

@[simp] theorem setRx_setRx (s : State) (p : PortId) (a b : Receiver) : (s.setRx p a).setRx p b = s.setRx p b := by
  simp [State.setRx]

/-- A receiver that is where it is sent is not moved. -/
theorem setRx_of_eq {rx : Receiver} (h : (s.port p).rx = rx) : s.setRx p rx = s := by
  subst h
  exact setPort_port s p

@[simp] theorem setRx_rx (s : State) (p : PortId) (rx : Receiver) : ((s.setRx p rx).port p).rx = rx := by simp

theorem execAll_cons_of_next {c : Instr} {cs : List Instr} {t : State} (h : exec c s = .next t) :
    execAll (c :: cs) s = execAll cs t := by
  rw [execAll, h]

/-! One byte (R164). -/

theorem receive_of_hunt (h : (s.port p).rx = .hunt) :
    exec (.byteReceived p b) s = .next (s.setRx p (if b = syncByte then .length else .hunt)) := by
  have hr : s.receive p b = s.setRx p (if b = syncByte then .length else .hunt) := by
    rw [State.receive, h]
    by_cases hb : b = syncByte
    · simp only [if_pos hb]
    · simp only [if_neg hb]
      exact (setRx_of_eq h).symm
  exact congrArg _ hr

theorem receive_of_length (h : (s.port p).rx = .length) :
    exec (.byteReceived p b) s =
      .next (s.setRx p (if 1 ≤ b.toNat ∧ b.toNat ≤ 241 then .body b.toNat [] (crc16 [b]) else .hunt)) := by
  have hr : s.receive p b =
      s.setRx p (if 1 ≤ b.toNat ∧ b.toNat ≤ 241 then .body b.toNat [] (crc16 [b]) else .hunt) := by
    rw [State.receive, h]
    simp only
    split <;> rfl
  exact congrArg _ hr

theorem receive_of_body {left : Nat} (h : (s.port p).rx = .body left data check) :
    exec (.byteReceived p b) s = .next (s.setRx p (if left ≤ 1 then .check (data ++ [b]) (crc16Byte check b) none
      else .body (left - 1) (data ++ [b]) (crc16Byte check b))) := by
  have hr : s.receive p b = s.setRx p (if left ≤ 1 then .check (data ++ [b]) (crc16Byte check b) none
      else .body (left - 1) (data ++ [b]) (crc16Byte check b)) := by
    rw [State.receive, h]
    simp only
    split <;> rfl
  exact congrArg _ hr

theorem receive_of_check (h : (s.port p).rx = .check data check none) :
    exec (.byteReceived p b) s = .next (s.setRx p (.check data check (some b))) := by
  have hr : s.receive p b = s.setRx p (.check data check (some b)) := by
    rw [State.receive, h]
  exact congrArg _ hr

theorem receive_of_checkLow {low : Byte} (h : (s.port p).rx = .check data check (some low)) :
    exec (.byteReceived p b) s = .next (s.completeFrame p data check low b) := by
  have hr : s.receive p b = s.completeFrame p data check low b := by
    rw [State.receive, h]
  exact congrArg _ hr

theorem receive_of_deaf (h : (s.port p).rx.listening = false) : exec (.byteReceived p b) s = .next s := by
  have hr : s.receive p b = s := by
    unfold State.receive
    cases hrx : (s.port p).rx with
    | idle | awaitMark => rfl
    | hunt | length | body | check => simp [hrx, Receiver.listening] at h
  exact congrArg _ hr

/-! A whole frame. -/

/-- A frame's kind and payload, byte by byte, fill the body that its length announced and leave the check to come. -/
theorem execAll_body (bytes : List Byte) (hb : bytes ≠ []) (s : State) (data : List Byte) (check : BitVec 16)
    (h : (s.port p).rx = .body bytes.length data check) (rest : List Instr) :
    execAll (bytes.map (fun b => Instr.byteReceived p b) ++ rest) s =
      execAll rest (s.setRx p (.check (data ++ bytes) (bytes.foldl crc16Byte check) none)) := by
  induction bytes generalizing s data check with
  | nil => exact absurd rfl hb
  | cons b bytes ih =>
    rw [List.map_cons, List.cons_append, execAll_cons_of_next (receive_of_body h)]
    cases bytes with
    | nil => simp
    | cons b' bytes =>
      have hlen : ¬ (b :: b' :: bytes).length ≤ 1 := by simp
      rw [if_neg hlen, ih (List.cons_ne_nil _ _) _ (data ++ [b]) (crc16Byte check b) (by simp)]
      simp

/-- A frame completed with a matching check is offered (R166). -/
theorem completeFrame_of_match {kind low high : Byte} {payload : List Byte} (h : high ++ low = check) :
    s.completeFrame p (kind :: payload) check low high = (s.setRx p .hunt).offerFrame p kind payload := by
  simp only [State.completeFrame, if_pos h]

theorem completeFrame_of_mismatch {low high : Byte} (h : high ++ low ≠ check) :
    s.completeFrame p data check low high = s.setRx p .hunt := by
  simp only [State.completeFrame, if_neg h]

/-- The bytes of a frame, received from HUNT, come to the frame's being offered to the port (R164, R166). -/
theorem execAll_frameOf {kind : Byte} {payload : List Byte} (h : (s.port p).rx = .hunt) (hlen : payload.length ≤ 240) :
    execAll ((frameOf kind payload).map (fun b => Instr.byteReceived p b)) s =
      some ((s.setRx p .hunt).offerFrame p kind payload) := by
  have hn : (BitVec.ofNat 8 (payload.length + 1)).toNat = payload.length + 1 := by
    rw [BitVec.toNat_ofNat]
    omega
  have hframe : (frameOf kind payload).map (fun b => Instr.byteReceived p b) =
      .byteReceived p syncByte :: .byteReceived p (BitVec.ofNat 8 (payload.length + 1)) ::
        ((kind :: payload).map (fun b => Instr.byteReceived p b) ++
          [.byteReceived p ((crc16 (BitVec.ofNat 8 (payload.length + 1) :: kind :: payload)).setWidth 8),
            .byteReceived p ((crc16 (BitVec.ofNat 8 (payload.length + 1) :: kind :: payload) >>> 8).setWidth 8)]) := by
    simp [frameOf]
  have hcheck : (kind :: payload).foldl crc16Byte (crc16 [BitVec.ofNat 8 (payload.length + 1)]) =
      crc16 (BitVec.ofNat 8 (payload.length + 1) :: kind :: payload) := rfl
  rw [hframe, execAll_cons_of_next (receive_of_hunt h), if_pos rfl,
    execAll_cons_of_next (receive_of_length (setRx_rx _ _ _)), if_pos (by omega),
    execAll_body (kind :: payload) (List.cons_ne_nil _ _) _ [] (crc16 [BitVec.ofNat 8 (payload.length + 1)])
      (by simp [hn]), hcheck,
    execAll_cons_of_next (receive_of_check (setRx_rx _ _ _)), execAll_cons_of_next (receive_of_checkLow (setRx_rx _ _ _)),
    List.nil_append, completeFrame_of_match (check_halves _)]
  simp [execAll]

/-! A frame offered (R167). -/

theorem offerFrame_of_full {kind : Byte} {payload : List Byte} (h : s.bufferFull p = true) :
    s.offerFrame p kind payload = s := if_pos h

theorem offerFrame_of_request {r : Request} (h : s.bufferFull p = false) :
    s.offerFrame p r.kind r.payload = s.takeRequest p r := by
  simp [State.offerFrame, h, payloadLength_kind, parseRequest_payload]

/-- A request kind is parsed whatever the payload. -/
theorem parseRequest_isSome (r : Request) (payload : List Byte) : ∃ r', parseRequest r.kind payload = some r' := by
  cases r <;> exact ⟨_, rfl⟩

theorem offerFrame_of_malformed {kind : Byte} {payload : List Byte} (h : s.bufferFull p = false)
    (hk : isRequestKind kind = true) (hl : payloadLength kind ≠ some payload.length) :
    s.offerFrame p kind payload = s.reply p kind .malformed .none := by
  obtain ⟨r, rfl⟩ := (isRequestKind_iff kind).mp hk
  obtain ⟨r', hr'⟩ := parseRequest_isSome r payload
  rw [payloadLength_kind] at hl
  have hne : payload.length ≠ r.payload.length := fun e => hl (by rw [e])
  simp [State.offerFrame, h, payloadLength_kind, hr', hne]

theorem offerFrame_of_unknown {kind : Byte} {payload : List Byte} (h : s.bufferFull p = false)
    (hk : isRequestKind kind = false) : s.offerFrame p kind payload = s.reply p kind .unknownKind .none := by
  have hn : payloadLength kind = none := by simpa [isRequestKind] using hk
  simp [State.offerFrame, h, hn]

theorem bufferFull_setRx (s : State) (p : PortId) (rx : Receiver) : (s.setRx p rx).bufferFull p = s.bufferFull p := by
  simp [State.bufferFull]

theorem bufferFull_of_lt (h : (s.port p).replies.length < 4) : s.bufferFull p = false :=
  decide_eq_false (not_le.mpr h)

/-- The bytes of a request's frame, received from HUNT, do what the frame's completion does (R166, R167). -/
theorem execAll_requestFrame {r : Request} (h : (s.port p).rx = .hunt) :
    execAll (r.frame.map (fun b => Instr.byteReceived p b)) s = some (s.completeRequest p r) := by
  have hlen : r.payload.length ≤ 240 := by
    have hl : ∀ kind : Byte, ∀ n ∈ payloadLength kind, n ≤ 240 := by decide +kernel
    exact hl r.kind _ (payloadLength_kind r)
  have hlisten : (s.port p).rx.listening = true := by rw [h]; rfl
  rw [Request.frame, execAll_frameOf h hlen, State.completeRequest, if_pos hlisten]
  cases hb : s.bufferFull p with
  | true => rw [offerFrame_of_full (by rw [bufferFull_setRx, hb]), if_pos rfl]
  | false => rw [offerFrame_of_request (by rw [bufferFull_setRx, hb]), if_neg (by simp)]

/-! Gaps, framing errors and discarded frames (R165). -/

theorem abandonFrame_of_listening (h : (s.port p).rx.listening = true) : s.abandonFrame p = s.setRx p .hunt := if_pos h

theorem abandonFrame_of_deaf (h : (s.port p).rx.listening = false) : s.abandonFrame p = s := if_neg (by simp [h])

end

end Sys2Proof.Machine

open Sys2Proof Sys2Proof.Machine

/-- Settles O51: the bytes of a whole frame, then the receiver's events, then one byte in each of its states. -/
theorem receiverMoves : Obligations.ReceiverMoves := by
  unfold Obligations.ReceiverMoves
  refine ⟨fun s p kind payload hx hr hlen => ⟨fun hk hl => ?malformed, fun hk => ?unknown⟩,
    fun s p kind => ⟨fun hl t ht => ?listening, fun hd => ?deaf, fun hh hk => ?unknownKind⟩, fun s p b rx => ?byte⟩
  case malformed =>
    rw [execAll_frameOf hx hlen, offerFrame_of_malformed (by rw [bufferFull_setRx, bufferFull_of_lt hr]) hk hl, reply_setRx]
  case unknown =>
    rw [execAll_frameOf hx hlen, offerFrame_of_unknown (by rw [bufferFull_setRx, bufferFull_of_lt hr]) hk, reply_setRx]
  case listening =>
    subst ht
    have ha : exec (.frameGap p) s = .next (s.setPort p { s.port p with rx := .hunt }) :=
      congrArg _ (abandonFrame_of_listening hl)
    refine ⟨ha, ha, ha, fun h4 => ?_⟩
    have hu : exec (.frameUnanswered p) s = .next (if s.bufferFull p then s.abandonFrame p else s) := rfl
    rw [hu, if_pos (bufferFull_of_four h4), abandonFrame_of_listening hl, State.setRx]
  case deaf =>
    have ha : exec (.frameGap p) s = .next s := congrArg _ (abandonFrame_of_deaf hd)
    refine ⟨ha, ha, ha, ?_, ?_, fun b => receive_of_deaf hd, fun r => ?_⟩
    · have hu : exec (.frameUnanswered p) s = .next (if s.bufferFull p then s.abandonFrame p else s) := rfl
      rw [hu, abandonFrame_of_deaf hd, ite_self]
    · have hu : exec (.unknownKind p kind) s =
          .next (if (s.port p).rx.listening then (s.setRx p .hunt).offerFrame p kind [] else s) := rfl
      rw [hu, hd, if_neg (by simp)]
    · rw [exec_requestRow, completeRequest_of_deaf r hd]
  case unknownKind =>
    have hu : exec (.unknownKind p kind) s =
        .next (if (s.port p).rx.listening then (s.setRx p .hunt).offerFrame p kind [] else s) := rfl
    rw [hu, if_pos hh.1, offerFrame_of_unknown (by rw [bufferFull_setRx, hh.2]) hk, reply_setRx]
  case byte =>
    refine ⟨fun h hrx => ?_, fun h hrx => ?_, fun left data check h hrx => ?_, fun data check h hrx => ?_,
      fun data check low h hrx hne => ?_⟩
    · subst hrx
      exact receive_of_hunt h
    · rw [receive_of_length h, hrx, State.setRx]
    · rw [receive_of_body h, hrx, State.setRx]
    · rw [receive_of_check h, hrx, State.setRx]
    · rw [receive_of_checkLow h, hrx, completeFrame_of_mismatch hne, State.setRx]

/-- Settles O53: both the row and the frame's bytes are the completion of the frame. -/
theorem frameBytesAreTheRequest : Obligations.FrameBytesAreTheRequest := by
  unfold Obligations.FrameBytesAreTheRequest
  intro s t p r hx ht
  rw [exec_requestRow] at ht
  cases ht
  exact execAll_requestFrame hx
end

section
/-! Readings and banks: what a READING, a RESOLVE_ANSWER, a resolve's expiry and the bank requests do (R23 to R43). -/

namespace Sys2Proof.Machine

section
variable {s t : State} {p st : StationId} {r : Reading} {rest : List Reading} {c : Conversion}

theorem inService_eq_true_iff : s.inService st = true ↔ (s.station st).service = .inService := by
  simp [State.inService]

theorem inService_eq_false_iff : s.inService st = false ↔ (s.station st).service ≠ .inService := by
  simp [State.inService]

/-! READING (R25, R26). -/

section
variable {vRaw d rhoM : BitVec 16} {flush fault : Bool}

theorem answerReading_of_out (h : s.inService p = false) :
    answerReading p vRaw d rhoM flush fault s = refuse s .outOfService := if_pos (inService_eq_false_iff.mp h)

theorem answerReading_of_full (h : s.inService p = true) (hl : 8 ≤ (s.station p).queue.length) :
    answerReading p vRaw d rhoM flush fault s = refuse s .full := by
  rw [answerReading, if_neg (not_not.mpr (inService_eq_true_iff.mp h)), readingPlaces, if_pos hl]

theorem answerReading_of_queued (h : s.inService p = true) (hl : (s.station p).queue.length < 8)
    (hq : (s.station p).queue ≠ []) : answerReading p vRaw d rhoM flush fault s = ⟨.done, .tag (s.station p).tag,
      s.acceptReading p (acceptedReading (s.station p) vRaw d rhoM flush fault)⟩ := by
  have he : (s.station p).queue.isEmpty = false := by simpa using hq
  rw [answerReading, if_neg (not_not.mpr (inService_eq_true_iff.mp h)), readingPlaces, if_neg (not_le.mpr hl)]
  simp only [he, Bool.false_eq_true, if_false]

theorem answerReading_of_head (h : s.inService p = true) (hq : (s.station p).queue = []) :
    answerReading p vRaw d rhoM flush fault s = ⟨.done, .tag (s.station p).tag,
      (s.acceptReading p (acceptedReading (s.station p) vRaw d rhoM flush fault)).convertHead p⟩ := by
  rw [answerReading, if_neg (not_not.mpr (inService_eq_true_iff.mp h)), if_neg (by simp [hq, readingPlaces]), hq]
  rfl

end

/-- A reading accepted into an empty queue that is READY at once (R31). -/
theorem acceptReading_convertHead_of_ready {m : Nat} (hq : (s.station p).queue = [])
    (hc : convert ((s.station p).banks.get r.bank) (s.station p).lastGood r = .ready c m) :
    (s.acceptReading p r).convertHead p = s.setStation p { s.station p with
      queue := [{ r with stage := .ready c m }]
      lastGood := lastGoodAfter ((s.station p).banks.get r.bank) (s.station p).lastGood r
      tag := (s.station p).tag + 1
      silence := some (expiryAfter s.lineTime s.tStale) } := by
  have hst : (s.acceptReading p r).station p = { s.station p with
      queue := [r], tag := (s.station p).tag + 1, silence := some (expiryAfter s.lineTime s.tStale) } := by
    simp [State.acceptReading, hq]
  rw [convertHead_of_settled (stage := .ready c m) (r := r) (rest := []) (by rw [hst]) (by rw [hst]; exact hc) (by simp), hst]
  simp [State.acceptReading]

/-- One that is AWAITING raises its resolve (R39). -/
theorem acceptReading_convertHead_of_awaiting (hq : (s.station p).queue = [])
    (hc : convert ((s.station p).banks.get r.bank) (s.station p).lastGood r = .awaiting c) :
    (s.acceptReading p r).convertHead p = (s.setStation p { s.station p with
      queue := [{ r with stage := .awaiting c }]
      lastGood := lastGoodAfter ((s.station p).banks.get r.bank) (s.station p).lastGood r
      tag := (s.station p).tag + 1
      silence := some (expiryAfter s.lineTime s.tStale) }).raiseResolve p r c := by
  have hst : (s.acceptReading p r).station p = { s.station p with
      queue := [r], tag := (s.station p).tag + 1, silence := some (expiryAfter s.lineTime s.tStale) } := by
    simp [State.acceptReading, hq]
  rw [convertHead_of_awaiting (r := r) (rest := []) (by rw [hst]) (by rw [hst]; exact hc), hst]
  simp [State.acceptReading]

/-- An AWAITING conversion is out of range and leaves the last-good composition (R37, R39). -/
theorem lastGoodAfter_of_awaiting {b : Bank} {lg : Option Composition} (h : convert b lg r = .awaiting c) :
    lastGoodAfter b lg r = lg := by
  cases hcls : (measured b r).cls with
  | fault | low | high => exact lastGoodAfter_of_outOfRange rfl (by simp [hcls])
  | idle | flush | water | slurry => simp [convert, convertInRange, hcls] at h

/-! The raising of a resolve (R39). -/

theorem raisedAs_raise (s : State) (p : PortId) (body : NoticeBody) (urgent : Bool) :
    RaisedAs s (s.raise p body urgent) fun q => if q = p then [(body, urgent)] else [] := by
  refine ⟨fun q => ?_, rfl⟩
  by_cases hq : q = p
  · subst hq
    simp
  · simp [hq]

/-- The URGENT notice to the station's own port comes first, then the WATCH notices of the sample. -/
theorem raisedAs_raiseResolve (s : State) (st : StationId) (r : Reading) (c : Conversion) :
    ∃ u ws, RaisedAs s u (fun q => if q = st then [(.resolve st r.tag c.cls r.rhoM c.v r.bank, true)] else []) ∧
      WatchRaised u (s.raiseResolve st r c) ws := by
  obtain ⟨ws, hws⟩ := watchRaised_offer ((s.setStation st { s.station st with
    resolve := some (expiryAfter s.lineTime s.tRes) }).raise st (.resolve st r.tag c.cls r.rhoM c.v r.bank) true)
    ⟨.resolves, 1, none, some st, none⟩
  have hr := raisedAs_raise (s.setStation st { s.station st with resolve := some (expiryAfter s.lineTime s.tRes) }) st
    (.resolve st r.tag c.cls r.rhoM c.v r.bank) true
  exact ⟨_, ws, hr.after rfl rfl, hws⟩

theorem offeredTo_raiseResolve (s : State) (st : StationId) (r : Reading) (c : Conversion) :
    OfferedTo s (s.raiseResolve st r c) [⟨.resolves, 1, none, some st, none⟩] := by
  have h0 : OfferedTo s ((s.setStation st { s.station st with resolve := some (expiryAfter s.lineTime s.tRes) }).raise st
      (.resolve st r.tag c.cls r.rhoM c.v r.bank) true) [] := .of_watches rfl
  exact h0.trans (offeredTo_offer _ _)

/-- A resolve raised tells the station's own port, URGENT. -/
theorem raiseResolve_told {s0 s1 : State} (hs : LinkOnly s0 s1) (hp : s.ports = s1.ports) (hl : s.lineTime = s1.lineTime)
    (ht : LinkOnly (s.raiseResolve st r c) t) :
    (s0.port st).tells (t.port st) (.resolve st r.tag c.cls r.rhoM c.v r.bank) true := by
  obtain ⟨u, ws, hr, hw⟩ := raisedAs_raiseResolve s st r c
  refine (((hr.trans hw.raised).after hp hl).noticesAs hs ht).tells
    (body := .resolve st r.tag c.cls r.rhoM c.v r.bank) ?_ (by simp)
  have hnone := hw.filter_key st (k := .resolve st) rfl
  have hkey : NoticeBody.key (.resolve st r.tag c.cls r.rhoM c.v r.bank) = .resolve st := rfl
  rw [if_pos rfl, hkey, List.filter_append, hnone]
  simp [NoticeBody.key]

/-- An answer that changes its port's station and beside it only what notices and samples change. -/
theorem answered_of_station {x : Station} {u : State} (h : SamplesOnly ((s.setRx p .hunt).setStation p x) u) (kind : Byte)
    (result : Result) (body : ReplyBody) : (u.reply p kind result body).station p = x ∧
      s.sameStationsBut (u.reply p kind result body) p ∧ s.sameSetUp (u.reply p kind result body) ∧
      s.sameSegments (u.reply p kind result body) ∧ s.sameSpans (u.reply p kind result body) ∧
      s.sameStore (u.reply p kind result body) ∧ s.sameLinksBut (u.reply p kind result body) p ∧
      s.repliedAt (u.reply p kind result body) p ⟨kind, result, body⟩ := by
  have hst := h.engineOnly.station_eq
  have hlast := h.engineOnly.same.2.2
  obtain ⟨hlinks, hreplied⟩ := answered_links (s := s) (p := p) (u := u) h.engineOnly.sameLinks kind result body
  exact ⟨(hst p).trans (setStation_station_same _ _ _), ⟨hlast, fun y hy => (hst y).trans (setStation_station_ne _ _ _ hy)⟩,
    answered_sameSetUp (s := s) h.engineOnly.sameSetUp _ _ _, fun k => h.engineOnly.segment_eq k, fun j => h.span_eq j,
    ⟨h.free_eq, fun j => h.queue_eq j⟩, hlinks, hreplied⟩

theorem tells_urgent {before after : Port} {body : NoticeBody} (h : before.tells after body true) :
    ∃ x ∈ after.urgent, x.body = body := by
  rwa [Port.tells, if_pos (.inl rfl)] at h

/-! The end of a resolve (R40, R41, R178). -/

theorem settleHead_station (s : State) (st : StationId) (r : Reading) (rest : List Reading) :
    (s.settleHead st r rest).station st = { s.station st with queue := r :: rest, resolve := none } ∧
      ∀ x, x ≠ st → (s.settleHead st r rest).station x = s.station x :=
  ⟨setStation_station_same _ _ _, fun _ hx => setStation_station_ne _ _ _ hx⟩

theorem settleHead_port (s : State) (st : StationId) (r : Reading) (rest : List Reading) :
    (s.settleHead st r rest).port st = (s.port st).withNotices (dropKey (.resolve st) (s.port st).urgent)
        (dropKey (.resolve st) (s.port st).routine) ∧
      ∀ q, q ≠ st → (s.settleHead st r rest).port q = s.port q :=
  ⟨setPort_port_same _ _ _, fun _ hq => setPort_port_ne _ _ _ hq⟩

theorem settleHead_linkOf (s : State) (st : StationId) (r : Reading) (rest : List Reading) (q : PortId) :
    ((s.settleHead st r rest).port q).linkOf = (s.port q).linkOf := by
  obtain ⟨hsame, hne⟩ := settleHead_port s st r rest
  by_cases hq : q = st
  · subst hq
    rw [hsame]
    rfl
  · rw [hne q hq]

/-- What a settled head leaves as it stands. -/
theorem settleHead_same (s : State) (st : StationId) (r : Reading) (rest : List Reading) :
    s.sameStationsBut (s.settleHead st r rest) st ∧ s.sameSetUp (s.settleHead st r rest) ∧
      s.sameSegments (s.settleHead st r rest) ∧ s.sameSpans (s.settleHead st r rest) ∧
      s.sameStore (s.settleHead st r rest) ∧ s.sameWatches (s.settleHead st r rest) :=
  ⟨⟨rfl, (settleHead_station s st r rest).2⟩, ⟨rfl, rfl, rfl, rfl, rfl, rfl, rfl, rfl, rfl, rfl⟩, fun _ => rfl,
    fun _ => rfl, ⟨rfl, fun _ => rfl⟩, fun _ => rfl⟩

/-- A head settled by a request, and the request answered. -/
theorem settleHead_answered (s : State) (p : PortId) (head : Reading) (rest : List Reading) (kind : Byte) (result : Result)
    (body : ReplyBody) {t : State} (ht : t = ((s.setRx p .hunt).settleHead p head rest).reply p kind result body) :
    t.station p = { s.station p with queue := head :: rest, resolve := none } ∧
      (t.port p).urgent = dropKey (.resolve p) (s.port p).urgent ∧
      (t.port p).routine = dropKey (.resolve p) (s.port p).routine ∧ (∀ q, q ≠ p → t.port q = s.port q) ∧
      s.sameStationsBut t p ∧ s.sameSetUp t ∧ s.sameSegments t ∧ s.sameSpans t ∧ s.sameStore t ∧ s.sameWatches t ∧
      s.repliedAt t p ⟨kind, result, body⟩ := by
  subst ht
  obtain ⟨hst, -⟩ := settleHead_station (s.setRx p .hunt) p head rest
  obtain ⟨hport, hother⟩ := settleHead_port (s.setRx p .hunt) p head rest
  obtain ⟨hbut, hsetUp, hsegs, hspans, hstore, hwatches⟩ := settleHead_same (s.setRx p .hunt) p head rest
  obtain ⟨-, hreplied⟩ := answered_links (settleHead_linkOf (s.setRx p .hunt) p head rest) kind result body
  generalize (s.setRx p .hunt).settleHead p head rest = u at *
  have hp : (u.reply p kind result body).port p = (u.port p).reply ⟨kind, result, body⟩ := reply_port_same _ _ _ _ _
  rw [hport] at hp
  simp only [setRx_port_same] at hp
  exact ⟨hst, by rw [hp]; rfl, by rw [hp]; rfl, fun q hq => by rw [reply_port_ne (h := hq), hother q hq, setRx_port_ne _ _ _ hq],
    answered_sameStationsBut hbut _ _ _, answered_sameSetUp hsetUp _ _ _, answered_sameSegments hsegs _ _ _,
    answered_sameSpans hspans _ _ _, answered_sameStore hstore _ _ _, answered_sameWatches hwatches _ _ _, hreplied⟩

theorem answerResolve_of_awaiting {tag : Byte} {mAns : BitVec 32} (hq : (s.station p).queue = r :: rest)
    (hc : r.stage = .awaiting c) (ht : r.tag = tag) :
    answerResolve p tag mAns s = doneWith (s.settleHead p { r with
      stage := .ready { c with flags := { c.flags with referred := true } }
        (min mAns.toNat (c.v * ((s.station p).banks.get r.bank).rhoS / 1000)) } rest) := by
  simp only [answerResolve, hq, hc, if_pos ht]

theorem answerResolve_of_late {tag : Byte} {mAns : BitVec 32}
    (h : ∀ r rest c, (s.station p).queue = r :: rest → r.stage = .awaiting c → r.tag ≠ tag) :
    answerResolve p tag mAns s = refuse s .late := by
  unfold answerResolve
  cases hq : (s.station p).queue with
  | nil => rfl
  | cons r rest =>
    cases hc : r.stage with
    | awaiting c => simp only [hc, if_neg (h r rest c hq hc)]
    | queued | ready => simp only [hc]

theorem exec_resolveExpiry_of_due (hd : timerDue s.lineTime (s.station st).resolve = true)
    (hq : (s.station st).queue = r :: rest) (hc : r.stage = .awaiting c) :
    exec (.resolveExpiry st) s =
      .next (s.settleHead st { r with stage := lastGoodHold (s.station st).lastGood c } rest) := by
  have he : s.expireResolve st = s.settleHead st { r with stage := lastGoodHold (s.station st).lastGood c } rest := by
    simp only [State.expireResolve, hq, hc]
  rw [← he]
  exact congrArg _ (if_pos hd)

/-! Banks (R27 to R30). -/

theorem index4_of_lt {b : Byte} (h : b.toNat < 4) : index4 b = some ⟨b.toNat, h⟩ := dif_pos h

theorem index4_of_ge {b : Byte} (h : ¬ b.toNat < 4) : index4 b = none := dif_neg h

theorem within_iff {a b x : Nat} : within a b x = true ↔ a ≤ x ∧ x ≤ b := by simp [within]

theorem bankModeOf_eq (b : Byte) :
    bankModeOf b = if b.toNat < 2 then some (if b.toNat = 0 then .refer else .limit) else none := by
  unfold bankModeOf
  split
  · next h => simp [h]
  · next h => simp [h]
  · next h0 h1 =>
    rw [if_neg]
    intro h
    exact (Nat.lt_succ_iff_lt_or_eq.mp h).elim (fun h => h0 (Nat.lt_one_iff.mp h)) h1

/-- A bank record carries a bank exactly with every field in its range and the two densities apart (R27, R28). -/
theorem bankOf_eq (w : BankWire) : bankOf w =
    if (990 ≤ w.rhoW.toNat ∧ w.rhoW.toNat ≤ 1100) ∧ (2000 ≤ w.rhoS.toNat ∧ w.rhoS.toNat ≤ 4000) ∧
        w.rhoW.toNat + 500 ≤ w.rhoS.toNat ∧ (50 ≤ w.cMax.toNat ∧ w.cMax.toNat ≤ 600) ∧ w.deltaW.toNat ≤ 50 ∧
        (9000 ≤ w.kQ.toNat ∧ w.kQ.toNat ≤ 11000) ∧ w.mode.toNat < 2 then
      some ⟨w.rhoW.toNat, w.rhoS.toNat, w.cMax.toNat, w.deltaW.toNat, w.kQ.toNat,
        if w.mode.toNat = 0 then .refer else .limit⟩
    else none := by
  unfold bankOf
  rw [bankModeOf_eq]
  by_cases hm : w.mode.toNat < 2
  · rw [if_pos hm]
    simp only [Bool.and_eq_true, within_iff, decide_eq_true_eq, hm, and_true, Nat.zero_le, true_and, and_assoc]
  · simp [hm]

end

end Sys2Proof.Machine

open Sys2Proof Sys2Proof.Machine

/-- Settles O16: the two refusals, then the reading at the tail of a queue that holds one. -/
theorem readingRefusedOrQueued : Obligations.ReadingRefusedOrQueued := by
  unfold Obligations.ReadingRefusedOrQueued
  intro s p vRaw d rhoM flush fault ht
  refine ⟨fun hout => ?out, fun hin hl => ?full, fun hin hl hq => ?queued⟩
  case out =>
    exact exec_requestRow_of_report (r := .reading vRaw d rhoM flush fault) ht
      (answerReading_of_out (s := s.setRx p .hunt) hout)
  case full =>
    exact exec_requestRow_of_report (r := .reading vRaw d rhoM flush fault) ht
      (answerReading_of_full (s := s.setRx p .hunt) hin hl)
  case queued =>
    have h := exec_requestRow_of_answer (r := .reading vRaw d rhoM flush fault) ht
      (answerReading_of_queued (s := s.setRx p .hunt) hin hl hq)
    exact h.trans (congrArg _ (reply_setStation s p p _ 0x10 .done _))

/-- Settles O17: the reading accepted into an empty queue is converted as its head, READY. -/
theorem readingAtHeadConverts : Obligations.ReadingAtHeadConverts := by
  unfold Obligations.ReadingAtHeadConverts
  intro s p vRaw d rhoM flush fault r c m ht hin hq hr hc
  subst hr
  have h := exec_requestRow_of_answer (r := .reading vRaw d rhoM flush fault) ht
    (answerReading_of_head (s := s.setRx p .hunt) hin hq)
  have ha := acceptReading_convertHead_of_ready (s := s.setRx p .hunt) (p := p)
    (r := acceptedReading (s.station p) vRaw d rhoM flush fault) hq hc
  rw [setRx_station, ha] at h
  exact h.trans (congrArg _ (reply_setStation s p p _ 0x10 .done _))

/-- Settles O18: the same with an AWAITING head, whose resolve is raised: a notice to its own port and one sample. -/
theorem outOfRangeReadingRaisesResolve : Obligations.OutOfRangeReadingRaisesResolve := by
  unfold Obligations.OutOfRangeReadingRaisesResolve
  intro s p vRaw d rhoM flush fault r c ht hin hq hr hc
  have h := exec_requestRow_of_answer (r := .reading vRaw d rhoM flush fault) ht
    (answerReading_of_head (s := s.setRx p .hunt) hin hq)
  have ha := acceptReading_convertHead_of_awaiting (s := s.setRx p .hunt) (p := p) (r := r) hq hc
  have hr' : acceptedReading ((s.setRx p .hunt).station p) vRaw d rhoM flush fault = r := hr.symm
  rw [hr', ha] at h
  have hlg := lastGoodAfter_of_awaiting hc
  simp only [setRx_station, hlg] at h
  have hs := raiseResolve_samplesOnly ((s.setRx p .hunt).setStation p { s.station p with
    queue := [{ r with stage := .awaiting c }]
    tag := (s.station p).tag + 1
    silence := some (expiryAfter (s.setRx p .hunt).lineTime (s.setRx p .hunt).tStale) }) p r c
  rw [setStation_station_same, setStation_setStation] at hs
  have ho := offeredTo_raiseResolve ((s.setRx p .hunt).setStation p { s.station p with
    queue := [{ r with stage := .awaiting c }]
    tag := (s.station p).tag + 1
    silence := some (expiryAfter (s.setRx p .hunt).lineTime (s.setRx p .hunt).tStale) }) p r c
  have htold := fun {t} => raiseResolve_told (t := t) (st := p) (r := r) (c := c)
    (s := (s.setRx p .hunt).setStation p { s.station p with
      queue := [{ r with stage := .awaiting c }]
      tag := (s.station p).tag + 1
      silence := some (expiryAfter (s.setRx p .hunt).lineTime (s.setRx p .hunt).tStale) })
    (linkOnly_setRx (s := s) p .hunt) rfl rfl
  generalize State.raiseResolve _ p r c = u at h hs ho htold
  have hw : ∀ x, OfferedTo s ((s.setRx p .hunt).setStation p x) [] := fun _ => .of_watches rfl
  have hoff : OfferedTo s (u.reply p 0x10 .done (.tag (s.station p).tag)) [⟨.resolves, 1, none, some p, none⟩] :=
    ((hw _).trans ho).trans (.of_watches rfl)
  obtain ⟨hst, hbut, hsetUp, hsegs, hspans, hstore, hlinks, hreplied⟩ :=
    answered_of_station hs 0x10 .done (.tag (s.station p).tag)
  exact ⟨_, h, hst, tells_urgent (htold (linkOnly_reply p _ _ _)), hoff.offered, hbut, hsetUp, hsegs, hspans, hstore, hlinks,
    hreplied⟩

/-- Settles O22: a head that awaits its answer is settled by it or by the expiry, and nothing else moves. -/
theorem resolveEnds : Obligations.ResolveEnds := by
  unfold Obligations.ResolveEnds
  refine ⟨fun s p tag mAns ht => ⟨fun r rest c hq hc hr => ?answered, fun h => ?late⟩, fun s st r rest c hd hq hc => ?expired⟩
  case late =>
    exact exec_requestRow_of_report (r := .resolveAnswer tag mAns) ht (answerResolve_of_late (s := s.setRx p .hunt) h)
  case answered =>
    have h := exec_requestRow_of_answer (r := .resolveAnswer tag mAns) ht
      (answerResolve_of_awaiting (s := s.setRx p .hunt) (mAns := mAns) hq hc hr)
    exact ⟨_, h, settleHead_answered s p _ rest 0x11 .done .none rfl⟩
  case expired =>
    have hexec := exec_resolveExpiry_of_due hd hq hc
    obtain ⟨hst, -⟩ := settleHead_station s st { r with stage := lastGoodHold (s.station st).lastGood c } rest
    obtain ⟨hport, hother⟩ := settleHead_port s st { r with stage := lastGoodHold (s.station st).lastGood c } rest
    obtain ⟨hbut, hsetUp, hsegs, hspans, hstore, hwatches⟩ :=
      settleHead_same s st { r with stage := lastGoodHold (s.station st).lastGood c } rest
    have hlinks := settleHead_linkOf s st { r with stage := lastGoodHold (s.station st).lastGood c } rest
    have hstage : lastGoodHold (s.station st).lastGood c =
        match (s.station st).lastGood with
        | none => .ready { c with cBp := some 0, flags := { c.flags with estimated := true, water := true } } 0
        | some g => .ready { c with cBp := some g.cBp, flags := { c.flags with estimated := true } }
            ((c.v * g.cBp * g.rhoS + 5000000) / 10000000) := by
      cases (s.station st).lastGood <;> rfl
    rw [hstage] at hst
    exact ⟨_, hexec, hst, by rw [hport]; rfl, by rw [hport]; rfl, hother, hbut, hsetUp, hsegs, hspans, hstore, hwatches, hlinks⟩

/-- Settles O23: each request by whether its numbers and fields are in range. -/
theorem bankRequests : Obligations.BankRequests := by
  unfold Obligations.BankRequests
  refine ⟨fun s p bank w ht => ?write, fun s p bank ht => ?select, fun s p station bank ht hn => ?read⟩
  case write =>
    split
    · next ok =>
      obtain ⟨hb, hfields⟩ := id ok
      have ha : answerTo p (.bankWrite bank w) (s.setRx p .hunt) = doneWith ((s.setRx p .hunt).setStation p
          { s.station p with banks := (s.station p).banks.set ⟨bank.toNat, hb⟩ ⟨w.rhoW.toNat, w.rhoS.toNat, w.cMax.toNat,
            w.deltaW.toNat, w.kQ.toNat, if w.mode.toNat = 0 then .refer else .limit⟩ }) := by
        simp only [answerTo, answerBankWrite, index4_of_lt hb, bankOf_eq, if_pos hfields]
        rfl
      exact (exec_requestRow_of_answer ht ha).trans (congrArg _ (reply_setStation s p p _ 0x18 .done _))
    · next hnot =>
      refine exec_requestRow_of_report (r := .bankWrite bank w) ht ?_
      by_cases hb : bank.toNat < 4
      · have hfields := fun h => hnot ⟨hb, h⟩
        simp only [answerTo, answerBankWrite, index4_of_lt hb, bankOf_eq, if_neg hfields]
        rfl
      · simp only [answerTo, answerBankWrite, index4_of_ge hb]
        rfl
  case select =>
    split
    · next h =>
      have ha : answerTo p (.bankSelect bank) (s.setRx p .hunt) = doneWith ((s.setRx p .hunt).setStation p
          { s.station p with active := ⟨bank.toNat, h⟩ }) := by simp only [answerTo, answerBankSelect, index4_of_lt h]; rfl
      exact (exec_requestRow_of_answer ht ha).trans (congrArg _ (reply_setStation s p p _ 0x19 .done _))
    · next h =>
      exact exec_requestRow_of_report (r := .bankSelect bank) ht (by simp only [answerTo, answerBankSelect, index4_of_ge h]; rfl)
  case read =>
    split
    · next hs =>
      obtain ⟨hsn, hs4⟩ := id hs
      have hst : (index4 station).filter (fun st => (s.setRx p .hunt).isConfigured st) = some ⟨station.toNat, hs4⟩ := by
        rw [index4_of_lt hs4]
        exact if_pos (decide_eq_true hsn)
      split
      · next hb =>
        refine exec_requestRow_of_report (r := .bankRead station bank) ht ?_
        simp only [answerTo, answerBankRead, hst, index4_of_lt hb]
        rfl
      · next hb =>
        refine exec_requestRow_of_report (r := .bankRead station bank) ht ?_
        simp only [answerTo, answerBankRead, hst, index4_of_ge hb]
        rfl
    · next hs =>
      have hst : (index4 station).filter (fun st => (s.setRx p .hunt).isConfigured st) = none := by
        by_cases hs4 : station.toNat < 4
        · rw [index4_of_lt hs4]
          exact if_neg fun h => hs ⟨of_decide_eq_true h, hs4⟩
        · rw [index4_of_ge hs4]
          rfl
      refine exec_requestRow_of_report (r := .bankRead station bank) ht ?_
      simp only [answerTo, answerBankRead, hst]
      rfl
end

section
/-! Reports and answers about one span or segment: SPAN_READ, PARCEL_LIST, trip inputs, VERDICT_CLEAR and SETTINGS_PROPOSE (R74,
R102, R104 to R108, R124, R131, R132). -/

namespace Sys2Proof.Machine

section
variable {s t u : State} {p : PortId} {id : Byte} {j : SpanId} {l : SpanLine}

/-! What an answer of the engine leaves. -/

/-- An answered request that changes what the engine and the span table change, and no more. -/
theorem answered_of_engineOnly (h : EngineOnly (s.setRx p .hunt) u) (kind : Byte) (result : Result) (body : ReplyBody) :
    s.sameStations (u.reply p kind result body) ∧ s.sameSegments (u.reply p kind result body) ∧
      s.sameSetUp (u.reply p kind result body) ∧ s.sameLinksBut (u.reply p kind result body) p ∧
      s.repliedAt (u.reply p kind result body) p ⟨kind, result, body⟩ := by
  obtain ⟨hlinks, hreplied⟩ := answered_links (s := s) (p := p) (u := u) h.sameLinks kind result body
  exact ⟨⟨h.same.2.2, h.station_eq⟩, h.segment_eq, answered_sameSetUp (s := s) h.sameSetUp _ _ _, hlinks, hreplied⟩

/-! SPAN_READ and PARCEL_LIST (R74, R102). -/

theorem answerSpanRead_of_absent (h : ∀ j : SpanId, id.toNat = j.num → (s.span j).line = none) :
    answerSpanRead id s = refuse s .noSpan := by
  simp [answerSpanRead, spanNamed_eq_none h]

theorem answerSpanRead_of_present (hid : id.toNat = j.num) (hl : (s.span j).line = some l) :
    answerSpanRead id s = ⟨.done, .span (s.spanReport j l), s⟩ := by
  simp [answerSpanRead, spanNamed_eq_some_iff.2 ⟨hid, hl⟩]

theorem reportedExcess_of_line {sp : Span} (h : sp.line = some l) :
    sp.reportedExcess = max (-2 ^ 47) (min ((sp.q : Int) - sp.d - l.vSpan) (2 ^ 47 - 1)) := by
  rw [Span.reportedExcess, excess_of_line h]
  rfl

theorem answerParcelList_of_absent {start : BitVec 16} {count : Byte}
    (h : ∀ j : SpanId, id.toNat = j.num → (s.span j).line = none) : answerParcelList id start count s = refuse s .noSpan := by
  simp [answerParcelList, spanNamed_eq_none h]

theorem answerParcelList_of_present {start : BitVec 16} {count : Byte} (hid : id.toNat = j.num)
    (hl : (s.span j).line = some l) : answerParcelList id start count s =
      if 12 < count.toNat then refuse s .outOfRange
      else ⟨.done, .parcels j (s.queue j).length start.toNat s.lineTime (((s.queue j).drop start.toNat).take count.toNat), s⟩ := by
  simp only [answerParcelList, spanNamed_eq_some_iff.2 ⟨hid, hl⟩]
  rfl

/-! Trip inputs (R104 to R108). -/

/-- A span that a station touches, by its segments: one of them has the station at one end (R106). -/
theorem touches_iff (hl : (s.span j).line = some l) (hlt : l.upstream.val < j.num) {st : StationId} :
    s.touches st j = true ↔
      ∃ k : SegId, l.upstream.val < k.num ∧ k.num ≤ j.num ∧ (st = k.upStation ∨ st = k.downStation) := by
  have hup : ∀ k : SegId, k.upStation.val + 1 = k.num := fun k => by cases k <;> rfl
  have hj : j.num ≤ 3 := by cases j <;> decide
  simp only [State.touches, hl, Bool.and_eq_true, decide_eq_true_eq]
  constructor
  · rintro ⟨h1, h2⟩
    by_cases he : l.upstream.val = st.val
    · obtain ⟨k, hk⟩ := exists_seg_num (i := st.val + 1) (by omega) (by omega)
      exact ⟨k, by omega, by omega, .inl (Fin.ext (by have := hup k; omega))⟩
    · obtain ⟨k, hk⟩ := exists_seg_num (i := st.val) (by omega) (by omega)
      exact ⟨k, by omega, by omega, .inr (Fin.ext (by rw [downStation_val]; omega))⟩
  · rintro ⟨k, h1, h2, rfl | rfl⟩
    · have := hup k
      omega
    · rw [downStation_val]
      omega

theorem touches_of_absent (h : (s.span j).line = none) (st : StationId) : s.touches st j = false := by
  simp [State.touches, h]

/-- The hold of each span that the station touches is started, and no other (R107). -/
theorem trippedBy_span (s : State) (st : StationId) (j : SpanId) : (s.trippedBy st).span j =
    if s.touches st j then { s.span j with hold := some (expiryAfter s.lineTime s.tTrip) } else s.span j := by
  have hspan : ∀ (u : State) (i : SpanId), (u.holdIfTouched st i).span j =
      if i = j ∧ u.touches st i = true then { u.span j with hold := some (expiryAfter u.lineTime u.tTrip) } else u.span j :=
    fun u i => by
      unfold State.holdIfTouched
      split
      · next h =>
        by_cases hi : i = j
        · subst hi
          rw [setSpan_span_same, if_pos ⟨rfl, h⟩]
        · rw [setSpan_span_ne _ _ _ (Ne.symm hi), if_neg (fun hc => hi hc.1)]
      · next h => rw [if_neg (fun hc => h hc.2)]
  have htouch : ∀ (u : State) (i : SpanId), (u.holdIfTouched st i).touches st j = u.touches st j := fun u i => by
    have hline : ((u.holdIfTouched st i).span j).line = (u.span j).line := (lineKept_holdIfTouched st i).lines j
    rw [State.touches, hline, State.touches]
  have htime : ∀ (u : State) (i : SpanId), (u.holdIfTouched st i).lineTime = u.lineTime ∧
      (u.holdIfTouched st i).tTrip = u.tTrip := fun u i => by
    unfold State.holdIfTouched
    split <;> exact ⟨rfl, rfl⟩
  rw [State.trippedBy]
  cases j <;> simp [hspan, htouch, htime]

theorem trippedBy_rest (s : State) (st : StationId) : s.trippedBy st = { s with spans := (s.trippedBy st).spans } := by
  have h : ∀ (u : State) (i : SpanId), u.holdIfTouched st i = { u with spans := (u.holdIfTouched st i).spans } := fun u i => by
    unfold State.holdIfTouched
    split <;> rfl
  have h1 := h s .one
  have h2 := h (s.holdIfTouched st .one) .two
  have h3 := h ((s.holdIfTouched st .one).holdIfTouched st .two) .three
  rw [State.trippedBy, h3, h2, h1]

theorem exec_tripFallingEdge_of_high (hc : s.config = .configured) (h : (s.port p).trip = .high) :
    exec (.tripFallingEdge p) s = .next ((s.setPort p { s.port p with trip := .low }).trippedBy p) :=
  congrArg _ (if_pos ⟨hc, h⟩)

theorem exec_tripRelease_of_low (hc : s.config = .configured) (h : (s.port p).trip = .low) :
    exec (.tripRelease p) s = .next (s.setPort p { s.port p with trip := .high }) := congrArg _ (if_pos ⟨hc, h⟩)

theorem exec_holdExpiry_of_due (h : timerDue s.lineTime (s.span j).hold = true) :
    exec (.holdExpiry j) s = .next (s.setSpan j { s.span j with hold := none }) := congrArg _ (if_pos h)

/-! VERDICT_CLEAR (R124). -/

theorem answerVerdictClear_of_absent (h : ∀ j : SpanId, id.toNat = j.num → (s.span j).line = none) :
    answerVerdictClear p id s = refuse s .noSpan := by
  simp [answerVerdictClear, spanNamed_eq_none h]

theorem answerVerdictClear_of_present (hid : id.toNat = j.num) (hl : (s.span j).line = some l) :
    answerVerdictClear p id s =
      if !isEndOf p j l then refuse s .notParty
      else if !(s.span j).latch then refuse s .notLatched
      else doneWith ((s.setSpan j (s.span j).cleared).announceVerdict j (s.span j).verdict) := by
  simp [answerVerdictClear, spanNamed_eq_some_iff.2 ⟨hid, hl⟩]

/-- VERDICT_CLEAR by an end of a latched span clears the record and tells the ends of a change (R124). -/
theorem exec_verdictClear_of_latched (ht : s.takes p) (hid : id.toNat = j.num) (hl : (s.span j).line = some l)
    (hp : p = l.upstream ∨ p = j.downStation) (hlatch : (s.span j).latch = true) : exec (.verdictClear p id) s =
      .next ((((s.setRx p .hunt).setSpan j (s.span j).cleared).announceVerdict j (s.span j).verdict).reply p 0x24 .done
        .none) := by
  have he : ¬ (!isEndOf p j l) = true := by simp [isEndOf_iff.mpr hp]
  have hx : ¬ (!((s.setRx p .hunt).span j).latch) = true := by simp [hlatch]
  exact exec_requestRow_of_answer (r := .verdictClear id) ht
    ((answerVerdictClear_of_present (s := s.setRx p .hunt) hid hl).trans ((if_neg he).trans (if_neg hx)))

theorem not_isEndOf (hu : p ≠ l.upstream) (hd : p ≠ j.downStation) : isEndOf p j l = false := by
  simp [isEndOf, hu, hd]

/-- A run of notices that ends with a change of verdict, and holds no other VERDICT notice of the span, tells its ends. -/
theorem verdictTold_of_last {v : State} {xs ys : PortId → List (NoticeBody × Bool)} {before : Verdict}
    (h : NoticesAs s t xs) (hx : ∀ q, xs q = ys q ++ v.verdictNotices j l before q) (hv : t.span j = v.span j)
    (hy : ∀ q, (ys q).filter (fun x => x.1.key == .verdict j) = []) : s.verdictTold t j l before := by
  refine h.verdictTold fun q _ => ?_
  rw [hx, List.filter_append, hy, List.nil_append, verdictNotices_congr hv]

/-! SETTINGS_PROPOSE (R131, R132). -/

section
variable {k : SegId} {segment : Byte} {w : SettingsWire} {x : Settings}

theorem valid_iff (x : Settings) : x.valid = true ↔ (10 ≤ x.length ∧ x.length ≤ 30000) ∧ (100 ≤ x.dPipe ∧ x.dPipe ≤ 1200) ∧
    (500 ≤ x.vC ∧ x.vC ≤ 6000) ∧ (100 ≤ x.tLeak ∧ x.tLeak ≤ 10000000) ∧ (100 ≤ x.tDrift ∧ x.tDrift ≤ 10000000) ∧
    (10 ≤ x.tDep ∧ x.tDep ≤ 1000000) ∧ x.m ≤ 500 ∧ (1 ≤ x.nS ∧ x.nS ≤ 254) ∧ (x.nS ≤ x.nC ∧ x.nC ≤ 255) := by
  simp only [Settings.valid, Bool.and_eq_true, within_iff, Nat.zero_le, true_and, and_assoc]

theorem answerSettingsPropose_of_noSegment (h : ∀ k : SegId, segment.toNat = k.num → s.n ≤ k.num) :
    answerSettingsPropose p segment w s = refuse s .outOfRange := by
  simp [answerSettingsPropose, segmentNamed_eq_none h]

theorem answerSettingsPropose_of_notEnd (hk : segment.toNat = k.num) (hn : k.num < s.n) (hu : p ≠ k.upStation)
    (hd : p ≠ k.downStation) : answerSettingsPropose p segment w s = refuse s .notParty := by
  have hp : isEndOfSegment p k = false := by simp [isEndOfSegment, hu, hd]
  simp [answerSettingsPropose, segmentNamed_eq_some_iff.2 ⟨hk, hn⟩, hp]

theorem answerSettingsPropose_of_invalid (hk : segment.toNat = k.num) (hn : k.num < s.n)
    (hp : p = k.upStation ∨ p = k.downStation) (hv : (settingsOf w).valid = false) :
    answerSettingsPropose p segment w s = refuse s .outOfRange := by
  simp [answerSettingsPropose, segmentNamed_eq_some_iff.2 ⟨hk, hn⟩, isEndOfSegment_iff.2 hp, hv]

/-- Without a proposal pending, a valid record by an end of the segment is recorded (R132). -/
theorem answerSettingsPropose_of_noProposal (hk : segment.toNat = k.num) (hn : k.num < s.n)
    (hp : p = k.upStation ∨ p = k.downStation) (hv : (settingsOf w).valid = true) (hq : (s.segment k).proposal = none) :
    answerSettingsPropose p segment w s = ⟨.done, .outcome .recorded, s.recordProposal p k (settingsOf w)⟩ := by
  simp [answerSettingsPropose, segmentNamed_eq_some_iff.2 ⟨hk, hn⟩, isEndOfSegment_iff.2 hp, hv, hq]

/-- A valid record by an end of the segment is answered by the proposal that is pending (R132). -/
theorem answerSettingsPropose_of_proposal {q : Proposal} (hk : segment.toNat = k.num) (hn : k.num < s.n)
    (hp : p = k.upStation ∨ p = k.downStation) (hv : (settingsOf w).valid = true) (hq : (s.segment k).proposal = some q) :
    answerSettingsPropose p segment w s =
      if q.proposer = p then ⟨.done, .outcome .replaced, s.recordProposal p k (settingsOf w)⟩
      else if q.settings = settingsOf w then ⟨.done, .outcome .applied, s.applySettings k q.settings⟩
      else refuse s .conflict := by
  simp [answerSettingsPropose, segmentNamed_eq_some_iff.2 ⟨hk, hn⟩, isEndOfSegment_iff.2 hp, hv, hq]

/-- With no proposal of the other end pending, it is recorded (R132). -/
theorem answerSettingsPropose_of_own (hk : segment.toNat = k.num) (hn : k.num < s.n)
    (hp : p = k.upStation ∨ p = k.downStation) (hv : (settingsOf w).valid = true)
    (hq : ∀ q, (s.segment k).proposal = some q → q.proposer = p) : answerSettingsPropose p segment w s =
      ⟨.done, .outcome (if (s.segment k).proposal = none then .recorded else .replaced), s.recordProposal p k (settingsOf w)⟩ := by
  cases h : (s.segment k).proposal with
  | none => rw [answerSettingsPropose_of_noProposal hk hn hp hv h, if_pos rfl]
  | some q => rw [answerSettingsPropose_of_proposal hk hn hp hv h, if_pos (hq q h), if_neg (by simp)]

/-- What a recorded proposal answers (R132). -/
def State.proposedBy (s : State) (p : PortId) (k : SegId) (x : Settings) (outcome : ProposalOutcome) : State :=
  ((s.setRx p .hunt).recordProposal p k x).reply p 0x30 .done (.outcome outcome)

variable (s p k x) (outcome : ProposalOutcome)

theorem proposedBy_segment_same : (s.proposedBy p k x outcome).segment k = { s.segment k with
    proposal := some ⟨p, x, expiryAfter s.lineTime s.tAgree⟩ } := by
  simp [State.proposedBy, State.recordProposal, State.raiseSettings]
  rfl

theorem proposedBy_segment_ne {i : SegId} (h : i ≠ k) : (s.proposedBy p k x outcome).segment i = s.segment i := by
  simp [State.proposedBy, State.recordProposal, State.raiseSettings, h]

theorem proposedBy_port_otherEnd : (s.proposedBy p k x outcome).port (otherEnd p k) =
    (s.port (otherEnd p k)).raise (.settings k .proposed) false s.lineTime := by
  simp [State.proposedBy, State.recordProposal, State.raiseSettings, otherEnd_ne p k]

theorem proposedBy_port_ne {q : PortId} (hp : q ≠ p) (ho : q ≠ otherEnd p k) :
    (s.proposedBy p k x outcome).port q = s.port q := by
  simp [State.proposedBy, State.recordProposal, State.raiseSettings, hp, ho]

theorem proposedBy_sameLinksBut : s.sameLinksBut (s.proposedBy p k x outcome) p := by
  intro q hq
  by_cases ho : q = otherEnd p k
  · subst ho
    rw [proposedBy_port_otherEnd, Port.raise_linkOf]
  · rw [proposedBy_port_ne s p k x outcome hq ho]

theorem proposedBy_repliedAt : s.repliedAt (s.proposedBy p k x outcome) p ⟨0x30, .done, .outcome outcome⟩ := by
  simp [State.repliedAt, State.proposedBy, State.recordProposal, State.raiseSettings, (otherEnd_ne p k).symm, Port.reply,
    Port.linkOf]

end

end

end Sys2Proof.Machine

open Sys2Proof Sys2Proof.Machine

/-- Settles O33: both reports are read from the record and the queue as they stand. -/
theorem spanReadAndParcelList : Obligations.SpanReadAndParcelList := by
  unfold Obligations.SpanReadAndParcelList
  refine ⟨fun s p id ht => ⟨fun h => exec_requestRow_of_refuse (r := .spanRead id) ht (answerSpanRead_of_absent h),
    fun j l sp hid hsp hl => ?read⟩, fun s p id start count ht =>
    ⟨fun h => exec_requestRow_of_refuse (r := .parcelList id start count) ht (answerParcelList_of_absent h),
      fun j l hid hl => ⟨fun hc => ?long, fun hc => ?listed⟩⟩⟩
  case read =>
    subst hsp
    rw [← reportedExcess_of_line hl]
    exact exec_requestRow_of_report (r := .spanRead id) ht (answerSpanRead_of_present (s := s.setRx p .hunt) hid hl)
  case long =>
    exact exec_requestRow_of_refuse (r := .parcelList id start count) ht
      ((answerParcelList_of_present (s := s.setRx p .hunt) hid hl).trans (if_pos hc))
  case listed =>
    exact exec_requestRow_of_report (r := .parcelList id start count) ht
      ((answerParcelList_of_present (s := s.setRx p .hunt) hid hl).trans (if_neg (not_lt.mpr hc)))

/-- Settles O36: a falling edge starts the hold of each span that the station touches by a segment. -/
theorem tripInputsAndHolds : Obligations.TripInputsAndHolds := by
  unfold Obligations.TripInputsAndHolds
  refine ⟨fun s p hc htop => ⟨fun htrip => ?falls, exec_tripRelease_of_low hc⟩, fun s j => exec_holdExpiry_of_due⟩
  case falls =>
    have hspan := trippedBy_span (s.setPort p { s.port p with trip := .low }) p
    have hrest := trippedBy_rest (s.setPort p { s.port p with trip := .low }) p
    have hexec := exec_tripFallingEdge_of_high hc htrip
    have hports : ∀ q, (s.setPort p { s.port p with trip := .low }).port q =
        if q = p then { s.port p with trip := .low } else s.port q := fun q => by
      by_cases hq : q = p
      · subst hq
        simp
      · simp [hq]
    generalize (s.setPort p { s.port p with trip := .low }).trippedBy p = t at hspan hrest hexec
    refine ⟨t, hexec, fun q => ?_, fun j => ⟨fun hl => ?_, fun l hl => ⟨fun hk => ?_, fun hk => ?_⟩⟩, ?_⟩
    · rw [← hports q, hrest]
      rfl
    · rw [hspan, if_neg]
      · rfl
      · rw [touches_of_absent (s := s.setPort p { s.port p with trip := .low }) hl]
        simp
    · rw [hspan, if_pos ((touches_iff (s := s.setPort p { s.port p with trip := .low }) hl (line_bounds htop hl).1).mpr hk)]
      rfl
    · rw [hspan, if_neg]
      · rfl
      · rw [touches_iff (s := s.setPort p { s.port p with trip := .low }) hl (line_bounds htop hl).1]
        rintro ⟨k, h1, h2, h3⟩
        exact h3.elim (hk k h1 h2).1 (hk k h1 h2).2
    · rw [hrest]
      exact ⟨⟨rfl, rfl, rfl, rfl, rfl, rfl, rfl, rfl, rfl, rfl⟩, ⟨rfl, fun _ => rfl⟩, fun _ => rfl, ⟨rfl, fun _ => rfl⟩,
        fun _ => rfl⟩

/-- Settles O37: the refusals in order, and the record cleared and derived. -/
theorem verdictClearUnlatches : Obligations.VerdictClearUnlatches := by
  unfold Obligations.VerdictClearUnlatches
  intro s p id ht
  refine ⟨fun h => exec_requestRow_of_refuse (r := .verdictClear id) ht (answerVerdictClear_of_absent h),
    fun j l hid hl => ⟨fun hu hd => ?notParty, fun hp hlatch => ?notLatched, fun hp hlatch => ?cleared⟩⟩
  case notParty =>
    have he : (!isEndOf p j l) = true := by simp [not_isEndOf hu hd]
    exact exec_requestRow_of_refuse (r := .verdictClear id) ht
      ((answerVerdictClear_of_present (s := s.setRx p .hunt) hid hl).trans (if_pos he))
  case notLatched =>
    have he : ¬ (!isEndOf p j l) = true := by simp [isEndOf_iff.mpr hp]
    have hx : (!((s.setRx p .hunt).span j).latch) = true := by simp [hlatch]
    exact exec_requestRow_of_refuse (r := .verdictClear id) ht
      ((answerVerdictClear_of_present (s := s.setRx p .hunt) hid hl).trans ((if_neg he).trans (if_pos hx)))
  case cleared =>
    have hexec := exec_verdictClear_of_latched ht hid hl hp hlatch
    obtain ⟨v, hv⟩ : ∃ v, v = (s.setRx p .hunt).setSpan j (s.span j).cleared := ⟨_, rfl⟩
    have hspan : v.span j = (s.span j).cleared := by rw [hv, setSpan_span_same]
    have hother : ∀ i, i ≠ j → v.span i = s.span i := fun i hi => by rw [hv, setSpan_span_ne _ _ _ hi]; rfl
    have hbefore : EngineOnly (s.setRx p .hunt) v := by rw [hv]; exact engineOnly_setSpan j _
    have hports : v.ports = (s.setRx p .hunt).ports := by rw [hv]; rfl
    have hstore : s.sameStore v ∧ s.sameWatches v := by rw [hv]; exact ⟨⟨rfl, fun _ => rfl⟩, fun _ => rfl⟩
    rw [← hv] at hexec
    have hraised := (raisedAs_announceVerdict (s := v) (by rw [hspan]; exact hl) (s.span j).verdict).after hports
      (by rw [hv]; rfl)
    have hnotices := noticesOnly_announceVerdict v j (s.span j).verdict
    generalize v.announceVerdict j (s.span j).verdict = u at hraised hnotices hexec
    obtain ⟨hstations, hsegments, hsetUp, hlinks, hreplied⟩ := answered_of_engineOnly
      (hbefore.trans hnotices.engineOnly) 0x24 .done .none
    exact ⟨_, hexec, (hnotices.span_eq j).trans hspan,
      verdictTold_of_last (ys := fun _ => []) (hraised.noticesAs (linkOnly_setRx p .hunt) (linkOnly_reply p 0x24 .done .none))
        (fun _ => rfl) (hnotices.span_eq j) fun _ => rfl,
      fun i hi => (hnotices.span_eq i).trans (hother i hi),
      ⟨hnotices.free_eq.trans hstore.1.1, fun i => (hnotices.queue_eq i).trans (hstore.1.2 i)⟩, hstations, hsegments,
      fun i => (hnotices.watch_eq i).trans (hstore.2 i), hsetUp, hlinks, hreplied⟩

/-- Settles O38: the refusals in order, then a proposal recorded with its notice to the other end. -/
theorem proposalRecordedOrRefused : Obligations.ProposalRecordedOrRefused := by
  unfold Obligations.ProposalRecordedOrRefused
  refine ⟨valid_iff, fun k => by cases k <;> exact ⟨rfl, rfl⟩, fun _ => rfl, fun s p segment w ht => ?_⟩
  have refused {code : Result} :=
    exec_requestRow_of_refuse (s := s) (p := p) (r := .settingsPropose segment w) (code := code)
  refine ⟨fun h => refused ht (answerSettingsPropose_of_noSegment h), fun k hk hn =>
    ⟨fun hu hd => refused ht (answerSettingsPropose_of_notEnd hk hn hu hd),
      fun hp hv => refused ht (answerSettingsPropose_of_invalid hk hn hp hv),
      fun hp hv => ⟨fun q hq ho hne => ?conflict, fun hq other hother => ?recorded⟩⟩⟩
  case conflict =>
    exact refused ht ((answerSettingsPropose_of_proposal (s := s.setRx p .hunt) hk hn hp hv hq).trans
      ((if_neg ho).trans (if_neg hne)))
  case recorded =>
    obtain rfl : other = otherEnd p k := Fin.ext (hother.trans (otherEnd_val hp).symm)
    have hexec := exec_requestRow_of_answer (r := .settingsPropose segment w) ht
      (answerSettingsPropose_of_own (s := s.setRx p .hunt) hk hn hp hv hq)
    obtain ⟨hstations, hspans, hstore, hwatches, hsetUp⟩ := same_of_segments_and_ports (s := s)
      (t := s.proposedBy p k (settingsOf w) (if (s.segment k).proposal = none then .recorded else .replaced)) rfl
    refine ⟨_, hexec, proposedBy_segment_same s p k _ _, ?told, fun i => proposedBy_segment_ne s p k _ _,
      fun x => proposedBy_port_ne s p k _ _, hstations, hspans, hstore, hwatches, hsetUp, proposedBy_sameLinksBut s p k _ _,
      proposedBy_repliedAt s p k _ _⟩
    case told =>
      have h := proposedBy_port_otherEnd s p k (settingsOf w)
        (if (s.segment k).proposal = none then .recorded else .replaced)
      exact (congrArg (fun x => Port.tells (s.port (otherEnd p k)) x (.settings k .proposed) false) h).mpr
        (Port.tells_raise _ _ (by simp))
end

section
/-! What a drain takes (R53, R63 to R67). -/

namespace Sys2Proof.Machine

/-- The portion that a parcel drained whole gives. -/
def Parcel.wholePortion (p : Parcel) : Portion := p.portion true p.volume p.solids

/-- The solids that the first litres of a parcel take with them (R64). -/
def Parcel.solidsOf (p : Parcel) (litres : Nat) : Nat := p.solids * litres / p.volume

/-- What a drain is: the parcels of a front of the queue drained whole, and behind them a rest that stands, or whose first
parcel is drained in part (R63 to R65). -/
structure Drained (litres : Nat) (ps gone rest : List Parcel) (d : DrainReport) : Prop where
  queue : ps = gone ++ rest
  freed : d.freed = indicesOf gone
  left : (d.portions = gone.map Parcel.wholePortion ∧ d.queue = rest ∧ (0 < d.shortfall → rest = [])) ∨
    ∃ p after a, rest = p :: after ∧ 0 < a ∧ a < p.volume ∧ d.shortfall = 0 ∧
      d.portions = gone.map Parcel.wholePortion ++ [p.portion false a (p.solidsOf a)] ∧
      d.queue = { p with volume := p.volume - a, solids := p.solids - p.solidsOf a } :: after

theorem drained_drainQueue (litres : Nat) (ps : List Parcel) :
    ∃ gone rest, Drained litres ps gone rest (drainQueue litres ps) := by
  induction ps generalizing litres with
  | nil => exact ⟨[], [], rfl, rfl, .inl ⟨rfl, rfl, fun _ => rfl⟩⟩
  | cons p ps ih =>
    rw [drainQueue]
    split
    · exact ⟨[], p :: ps, rfl, rfl, .inl ⟨rfl, rfl, fun h => absurd h (lt_irrefl 0)⟩⟩
    · next h0 =>
      split
      · next hv =>
        obtain ⟨gone, rest, hq, hf, hl⟩ := ih (litres - p.volume)
        refine ⟨p :: gone, rest, congrArg (p :: ·) hq, congrArg (p.index :: ·) hf, ?_⟩
        obtain ⟨hp, hr, hs⟩ | ⟨x, after, a, hr, ha, hav, hs, hp, hd⟩ := hl
        · exact .inl ⟨congrArg (p.wholePortion :: ·) hp, hr, hs⟩
        · exact .inr ⟨x, after, a, hr, ha, hav, hs, congrArg (p.wholePortion :: ·) hp, hd⟩
      · next hv =>
        exact ⟨[], p :: ps, rfl, rfl, .inr ⟨p, ps, litres, rfl, Nat.pos_of_ne_zero h0, not_le.mp hv, rfl, rfl, rfl⟩⟩

theorem solidsOf_le {p : Parcel} {a : Nat} (h : a ≤ p.volume) : p.solidsOf a ≤ p.solids :=
  cut_solids_le p h

@[simp] theorem solidsIn_cons (p : Parcel) (ps : List Parcel) : solidsIn (p :: ps) = p.solids + solidsIn ps := rfl

@[simp] theorem solidsIn_append (ps qs : List Parcel) : solidsIn (ps ++ qs) = solidsIn ps + solidsIn qs := by
  simp [solidsIn]

theorem wholePortions_volume (ps : List Parcel) : ((ps.map Parcel.wholePortion).map fun x => x.volume).sum = volumeIn ps := by
  simp [volumeIn, Parcel.wholePortion, Parcel.portion, Function.comp_def]

theorem wholePortions_solids (ps : List Parcel) : ((ps.map Parcel.wholePortion).map fun x => x.solids).sum = solidsIn ps := by
  simp [solidsIn, Parcel.wholePortion, Parcel.portion, Function.comp_def]

section
variable {litres : Nat} {ps gone rest : List Parcel} {d : DrainReport}

theorem Drained.volume (h : Drained litres ps gone rest d) : volumeIn d.queue + d.drained = volumeIn ps := by
  rw [h.queue, volumeIn_append]
  obtain ⟨hp, hr, -⟩ | ⟨p, after, a, hr, -, hav, -, hp, hd⟩ := h.left
  · rw [DrainReport.drained, hp, hr, wholePortions_volume, Nat.add_comm]
  · rw [DrainReport.drained, hp, hd, hr, List.map_append, List.sum_append, wholePortions_volume]
    simp only [volumeIn_cons, List.map_cons, List.map_nil, List.sum_cons, List.sum_nil, Parcel.portion]
    omega

theorem Drained.solids (h : Drained litres ps gone rest d) : solidsIn d.queue + d.e = solidsIn ps := by
  rw [h.queue, solidsIn_append]
  obtain ⟨hp, hr, -⟩ | ⟨p, after, a, hr, -, hav, -, hp, hd⟩ := h.left
  · rw [DrainReport.e, hp, hr, wholePortions_solids, Nat.add_comm]
  · have hle := solidsOf_le hav.le
    rw [DrainReport.e, hp, hd, hr, List.map_append, List.sum_append, wholePortions_solids]
    simp only [solidsIn_cons, List.map_cons, List.map_nil, List.sum_cons, List.sum_nil, Parcel.portion]
    omega

theorem Drained.freed_length (h : Drained litres ps gone rest d) : d.freed.length = gone.length := by
  simp [h.freed, indicesOf]

theorem Drained.queue_nil (h : Drained litres ps gone rest d) (hs : 0 < d.shortfall) : d.queue = [] := by
  obtain ⟨-, hr, hn⟩ | ⟨p, after, a, -, -, -, h0, -, -⟩ := h.left
  · rw [hr, hn hs]
  · omega

/-- The portions: those of the parcels drained whole, and behind them at most one, in part. -/
theorem Drained.portions (h : Drained litres ps gone rest d) : ∃ parts : List Portion,
    d.portions = gone.map Parcel.wholePortion ++ parts ∧ parts.length ≤ 1 ∧ (∀ x ∈ parts, x.whole = false) ∧
      (parts = [] → d.queue = rest) := by
  obtain ⟨hp, hr, -⟩ | ⟨p, after, a, -, -, -, -, hp, -⟩ := h.left
  · exact ⟨[], by simp [hp], by simp, by simp, fun _ => hr⟩
  · exact ⟨_, hp, by simp, by simp [Parcel.portion], by simp⟩

theorem wholePortions_filter (ps : List Parcel) :
    (ps.map Parcel.wholePortion).filter (fun x => x.whole) = ps.map Parcel.wholePortion := by
  simp [List.filter_eq_self, Parcel.wholePortion, Parcel.portion]

theorem Drained.whole (h : Drained litres ps gone rest d) :
    (d.portions.filter (fun x => x.whole)).length = d.freed.length ∧ d.portions.length ≤ d.freed.length + 1 ∧
      d.portions.take d.freed.length = (ps.take d.freed.length).map Parcel.wholePortion ∧
      (d.portions.length = d.freed.length → d.queue = ps.drop d.freed.length) := by
  obtain ⟨parts, hp, hlen, hpart, hq⟩ := h.portions
  have hnone : parts.filter (fun x => x.whole) = [] := by
    rw [List.filter_eq_nil_iff]
    intro x hx
    simp [hpart x hx]
  rw [h.freed_length, hp, h.queue]
  refine ⟨?_, ?_, ?_, fun hl => ?_⟩
  · rw [List.filter_append, wholePortions_filter, hnone]
    simp
  · simpa using hlen
  · simp
  · rw [List.drop_left]
    exact hq (by simpa using hl)

/-- The portion in part is of the parcel behind those drained whole, which keeps the rest (R64). -/
theorem Drained.part (h : Drained litres ps gone rest d) {x : Portion} (hx : x ∈ d.portions) (hw : x.whole = false) :
    ∃ p after a, rest = p :: after ∧ 0 < a ∧ a < p.volume ∧ x = p.portion false a (p.solidsOf a) ∧
      d.queue = { p with volume := p.volume - a, solids := p.solids - p.solidsOf a } :: after := by
  have hnot : x ∉ gone.map Parcel.wholePortion := by
    rintro hm
    obtain ⟨p, -, rfl⟩ := List.mem_map.mp hm
    cases hw
  obtain ⟨hp, -, -⟩ | ⟨p, after, a, hr, ha, hav, -, hp, hd⟩ := h.left
  · exact absurd (hp ▸ hx) hnot
  · rw [hp, List.mem_append, List.mem_singleton] at hx
    exact ⟨p, after, a, hr, ha, hav, hx.resolve_left hnot, hd⟩

end

end Sys2Proof.Machine

open Sys2Proof Sys2Proof.Machine

/-- Settles O27: from the shape of a drain, a front drained whole and at most one parcel in part. -/
theorem drainKeepsSlurry : Obligations.DrainKeepsSlurry := by
  unfold Obligations.DrainKeepsSlurry
  rintro litres ps d rfl
  obtain ⟨gone, rest, h⟩ := drained_drainQueue litres ps
  obtain ⟨hfilter, hlength, htake, hdrop⟩ := h.whole
  refine ⟨drain_volume litres ps, h.volume, h.solids, drain_indices litres ps, h.queue_nil, hfilter, hlength, htake, hdrop,
    by simp [DrainReport.taint, Flags.taints], fun x hx hw => ?part, drain_volume_pos litres⟩
  case part =>
    obtain ⟨p, after, a, hr, ha, hav, rfl, hd⟩ := h.part hx hw
    exact ⟨gone, p, after, hr ▸ h.queue, h.freed_length.symm, ha, hav, rfl, rfl, rfl, rfl, rfl, hd⟩

end

section
/-! What an allocation reclaims (R57 to R60), and what a sample does to the watch counters (R153 to R159). -/

namespace Sys2Proof.Machine

section
variable {s : State}

/-! Allocation. -/

/-- On a tie the fullest queue is that of the highest span id (R58). -/
theorem num_le_fullest {j : SpanId} (h : (s.queue j).length = (s.queue s.fullest).length) : j.num ≤ s.fullest.num := by
  unfold State.fullest at h ⊢
  by_cases h3 : (s.queue .one).length ≤ (s.queue .three).length ∧ (s.queue .two).length ≤ (s.queue .three).length
  · rw [if_pos h3]
    cases j <;> decide
  · rw [if_neg h3] at h ⊢
    by_cases h2 : (s.queue .one).length ≤ (s.queue .two).length
    · rw [if_pos h2] at h ⊢
      cases j with
      | three => omega
      | _ => decide
    · rw [if_neg h2] at h ⊢
      cases j with
      | one => decide
      | _ => omega

/-- What an allocation with a reclaim does to the queues (R59). -/
theorem allocate_queue_of_two {a b : Parcel} {ps : List Parcel} (hf : s.free = []) (hq : s.queue s.fullest = a :: b :: ps) :
    s.allocate.2.queue s.fullest = a.join b :: ps ∧ ∀ j, j ≠ s.fullest → s.allocate.2.queue j = s.queue j := by
  obtain ⟨-, hsame, hother⟩ := reclaim_store s a b ps hq
  rw [(allocate_of_empty hf hq).2]
  exact ⟨hsame, hother⟩

theorem reclaimOffers_of_two {a b : Parcel} {ps : List Parcel} (hf : s.free = []) (hq : s.queue s.fullest = a :: b :: ps) :
    s.reclaimOffers = [⟨.reclaims, 1, some s.fullest, none, none⟩] := if_pos ⟨hf, by simp [hq]⟩

/-! One sample and one counter. -/

variable {x : Sample} {i : WatchId} {w : Watch} {p : PortId}

theorem takes_iff (w : Watch) (x : Sample) : w.takes x = true ↔ w.owner ≠ none ∧ w.frozen = false ∧ w.source = x.source ∧
    (w.filter = none ∨ x.span = none ∨ w.filter = x.span) ∧ (∀ st, x.origin = some st → w.origins.getLsbD st.val = true) ∧
      ∀ b, x.bank = some b → w.banks.getLsbD b.val = true := by
  have hspan : w.spanPasses x = true ↔ w.filter = none ∨ x.span = none ∨ w.filter = x.span := by
    unfold Watch.spanPasses
    cases w.filter <;> cases x.span <;> simp
  have horigin : w.originPasses x = true ↔ ∀ st, x.origin = some st → w.origins.getLsbD st.val = true := by
    unfold Watch.originPasses
    cases x.origin <;> simp
  have hbank : w.bankPasses x = true ↔ ∀ b, x.bank = some b → w.banks.getLsbD b.val = true := by
    unfold Watch.bankPasses
    cases x.bank <;> simp
  simp only [Watch.takes, Bool.and_eq_true, hspan, horigin, hbank, Option.isSome_iff_ne_none, Bool.not_eq_true',
    decide_eq_true_eq, and_assoc]

theorem offerTo_of_passed (h : (s.watch i).takes x = false) : s.offerTo x i = s := by
  simp [State.offerTo, h]

theorem offerTo_of_taken (h : (s.watch i).takes x = true) (ho : overS48 ((s.watch i).moved x.value) = false) :
    s.offerTo x i = s.setWatch i ((s.watch i).take x.value) := by
  simp [State.offerTo, h, Watch.overflows, ho]

theorem offerTo_of_overflow (h : (s.watch i).takes x = true) (ho : overS48 ((s.watch i).moved x.value) = true) :
    s.offerTo x i = (s.setWatch i ((s.watch i).take x.value)).onOverflow i ((s.watch i).take x.value) := by
  simp [State.offerTo, h, Watch.overflows, ho]

/-! An overflow (R158, R159). -/

theorem onOverflow_of_owner (hp : w.owner = some p) (s : State) (i : WatchId) : s.onOverflow i w =
    if w.freeze then (if w.notify then s.raise p (.watch i w.value) false else s).freezeOwned p true
    else if w.notify then s.raise p (.watch i w.value) false else s := by
  simp only [State.onOverflow, hp]

theorem onOverflow_watch (hp : w.owner = some p) (s : State) (i k : WatchId) : (s.onOverflow i w).watch k =
    if w.freeze then (s.watch k).freezeIf p true else s.watch k := by
  have hraise : (if w.notify then s.raise p (.watch i w.value) false else s).watch k = s.watch k := by
    split <;> rfl
  rw [onOverflow_of_owner hp]
  by_cases hf : w.freeze = true
  · rw [if_pos hf, if_pos hf, freezeOwned_watch, hraise]
  · rw [if_neg hf, if_neg hf, hraise]

theorem onOverflow_ports (hp : w.owner = some p) (s : State) (i : WatchId) : (s.onOverflow i w).ports =
    if w.notify then (s.raise p (.watch i w.value) false).ports else s.ports := by
  rw [onOverflow_of_owner hp]
  by_cases hf : w.freeze = true
  · rw [if_pos hf]
    exact apply_ite State.ports _ _ _
  · rw [if_neg hf]
    exact apply_ite State.ports _ _ _

/-! The counters after one sample, where none has freeze-on-overflow set. -/

/-- A counter after a sample offered to it (R154, R155). -/
def Watch.after (w : Watch) (x : Sample) : Watch := if w.takes x then w.take x.value else w

theorem after_freeze (w : Watch) (x : Sample) : (w.after x).freeze = w.freeze := by
  unfold Watch.after
  split <;> rfl

theorem offerTo_watch_of_thawed (hf : (s.watch i).freeze = false) (k : WatchId) :
    (s.offerTo x i).watch k = if k = i then (s.watch k).after x else s.watch k := by
  have hset : (s.setWatch i ((s.watch i).take x.value)).watch k =
      if k = i then (s.watch k).take x.value else s.watch k := by
    by_cases hk : k = i
    · subst hk
      rw [setWatch_watch_same, if_pos rfl]
    · rw [setWatch_watch_ne _ _ _ hk, if_neg hk]
  cases ht : (s.watch i).takes x with
  | false =>
    rw [offerTo_of_passed ht]
    by_cases hk : k = i
    · subst hk
      rw [if_pos rfl, Watch.after, ht, if_neg (by simp)]
    · rw [if_neg hk]
  | true =>
    have hmoved : (s.offerTo x i).watch k = (s.setWatch i ((s.watch i).take x.value)).watch k := by
      cases ho : overS48 ((s.watch i).moved x.value) with
      | false => rw [offerTo_of_taken ht ho]
      | true =>
        obtain ⟨p, hp⟩ := Option.ne_none_iff_exists'.mp ((takes_iff _ _).mp ht).1
        have hf' : ((s.watch i).take x.value).freeze = false := hf
        rw [offerTo_of_overflow ht ho, onOverflow_watch (w := (s.watch i).take x.value) hp, hf', if_neg (by simp)]
    rw [hmoved, hset]
    by_cases hk : k = i
    · subst hk
      rw [if_pos rfl, if_pos rfl, Watch.after, if_pos ht]
    · rw [if_neg hk, if_neg hk]

/-- Offered to counters in order, each once, a sample moves each by its own taking. -/
theorem foldl_offerTo_watch (x : Sample) (is : List WatchId) (hi : is.Nodup) (s : State)
    (hf : ∀ i, (s.watch i).freeze = false) (k : WatchId) :
    (is.foldl (fun t i => t.offerTo x i) s).watch k = if k ∈ is then (s.watch k).after x else s.watch k := by
  induction is generalizing s with
  | nil => rfl
  | cons i is ih =>
    obtain ⟨hnot, hrest⟩ := List.nodup_cons.mp hi
    have hone := offerTo_watch_of_thawed (x := x) (hf i)
    have hthawed : ∀ j, ((s.offerTo x i).watch j).freeze = false := fun j => by
      rw [hone]
      split
      · rw [after_freeze, hf]
      · exact hf j
    rw [List.foldl_cons, ih hrest _ hthawed, hone]
    by_cases hk : k = i
    · subst hk
      simp [hnot]
    · simp [hk]

theorem offer_watch_of_thawed (hf : ∀ i, (s.watch i).freeze = false) (x : Sample) (i : WatchId) :
    (s.offer x).watch i = (s.watch i).after x := by
  rw [State.offer, foldl_offerTo_watch x allWatches (by decide) s hf, if_pos]
  fin_cases i <;> decide

/-! The wrap (R157). -/

theorem wrapS48_congr (e : Int) : (wrapS48 e - e) % 2 ^ 48 = 0 := by
  rw [wrapS48, Int.bmod_def]
  split <;> omega

theorem wrapS48_range (e : Int) : -2 ^ 47 ≤ wrapS48 e ∧ wrapS48 e < 2 ^ 47 := by
  rw [wrapS48, Int.bmod_def]
  split <;> omega

theorem overS48_eq (e : Int) : overS48 e = decide (e < -2 ^ 47 ∨ 2 ^ 47 ≤ e) := by
  rw [Bool.eq_iff_iff]
  have h : maxS48 < e ↔ 2 ^ 47 ≤ e := by rw [maxS48]; omega
  rw [overS48, Bool.or_eq_true, decide_eq_true_iff, decide_eq_true_iff, decide_eq_true_iff, h, minS48]

end

end Sys2Proof.Machine

open Sys2Proof Sys2Proof.Machine

/-- Settles O28: with a record free by the free list's head, from an empty list through the reclaim of the fullest queue. -/
theorem allocationReclaims : Obligations.AllocationReclaims := by
  unfold Obligations.AllocationReclaims
  refine ⟨rfl, allocate_of_free, fun s a b ps hf hq => ?_⟩
  obtain ⟨hi, hstate⟩ := allocate_of_empty hf hq
  obtain ⟨hsame, hother⟩ := allocate_queue_of_two hf hq
  have hengine := (storeOnly_allocate s).engineOnly
  refine ⟨hi, by rw [hstate]; rfl, hsame, hother, length_le_fullest s, fun j => num_le_fullest,
    (storeOnly_allocate s).span_eq, ⟨hengine.same.2.2, hengine.station_eq⟩, hengine.segment_eq, hengine.sameSetUp,
    hengine.sameLinks, ?_⟩
  rw [← reclaimOffers_of_two hf hq]
  exact (offeredTo_allocate s).offered

/-- Settles O44: with no counter freezing others, each takes the sample by itself. -/
theorem sampleMovesTakingCounters : Obligations.SampleMovesTakingCounters := by
  unfold Obligations.SampleMovesTakingCounters
  rintro s x hf i w w' rfl rfl
  rw [offer_watch_of_thawed hf, Watch.after]
  by_cases ht : (s.watch i).takes x = true
  · obtain ⟨hlow, hhigh⟩ := wrapS48_range ((s.watch i).moved x.value)
    rw [if_pos ht, if_pos ((takes_iff _ _).mp ht)]
    refine ⟨(s.watch i).moved x.value, wrapS48_congr _, hlow, hhigh, fun h => by rw [Watch.moved, h],
      fun h => by rw [Watch.moved, h], fun h => by rw [Watch.moved, h], fun h => by rw [Watch.moved, h], ?_⟩
    rw [← overS48_eq]
    cases hm : (s.watch i).mode <;> simp [Watch.take, Watch.compareAfter, Watch.overflows, hm]
  · rw [if_neg ht, if_neg fun h => ht ((takes_iff _ _).mpr h)]

/-- Settles O45: the order is the model's, and an overflow does what its counter's notify and freeze say. -/
theorem overflowNotifiesAndFreezes : Obligations.OverflowNotifiesAndFreezes := by
  unfold Obligations.OverflowNotifiesAndFreezes
  refine ⟨fun _ _ => rfl, fun s x i => ⟨offerTo_of_passed, offerTo_of_taken⟩, fun s x i p hp ht ho => ?_⟩
  have hfrozen : (s.watch i).frozen = false := ((takes_iff _ _).mp ht).2.1
  obtain ⟨w, hw⟩ : ∃ w, w = (s.watch i).take x.value := ⟨_, rfl⟩
  have howner : w.owner = some p := by rw [hw]; exact hp
  have hnotify : w.notify = (s.watch i).notify := by rw [hw]; rfl
  have hfreeze : w.freeze = (s.watch i).freeze := by rw [hw]; rfl
  have hvalue : w.value = wrapS48 ((s.watch i).moved x.value) := by rw [hw]; rfl
  have hover : w.overflow = true := by simp [hw, Watch.take, Watch.overflows, ho]
  have hthawed : w.frozen = false := by rw [hw]; exact hfrozen
  have hwatch := fun k => onOverflow_watch howner (s.setWatch i w) i k
  have hports := onOverflow_ports howner (s.setWatch i w) i
  rw [offerTo_of_overflow ht ho, ← hw]
  generalize (s.setWatch i w).onOverflow i w = t at hwatch hports
  have hself : t.watch i = if (s.watch i).freeze then { w with frozen := true } else w := by
    rw [hwatch, setWatch_watch_same, Watch.freezeIf, if_pos howner, hfreeze]
  have hvalue' : (t.watch i).value = w.value := by
    rw [hself]
    split <;> rfl
  refine ⟨fun hn => ?told, fun hn => ?silent, ?flag, hvalue'.trans hvalue, ?halted, fun k hk => ?others⟩
  case told =>
    rw [hnotify, hn, if_pos rfl] at hports
    have hport : t.port p = (s.port p).raise (.watch i w.value) false s.lineTime := by
      rw [State.port, hports]
      exact raise_port_same (s.setWatch i w) p _ _
    rw [State.told, hvalue', hport]
    exact Port.tells_raise _ _ (by simp)
  case silent =>
    rw [hports, hnotify, hn, if_neg (by simp)]
    rfl
  case flag =>
    rw [hself]
    split <;> exact hover
  case halted =>
    rw [hself]
    cases (s.watch i).freeze with
    | false => exact hthawed
    | true => rfl
  case others =>
    rw [hwatch, setWatch_watch_ne _ _ _ hk, hfreeze, Watch.freezeIf]
    cases (s.watch i).freeze <;> simp

end

section
/-! SPAN_CLOSE (R15), and what an event leaves of a span's record and tells its ends, in the words of the statements: an
epoch started (R84), the verdict derived (R121), the SPAN and VERDICT notices in their order (R7, R126, R174). -/

namespace Sys2Proof.Machine

section
variable {sp : Span} {now : LineTime}

/-! Records. -/

/-- Derivation of a record that is not OPEN, or whose window is not full, follows its latch and keeps it (R121). -/
theorem derive_of_blind (h : sp.state ≠ .opened ∨ sp.window.length < windowSize) :
    sp.derive = { sp with verdict := if sp.latch then .leak else .blind } := by
  have hv := derivedVerdict_of_blind sp h
  have hlatch : (sp.latch || sp.derivedVerdict == .leak) = sp.latch := by
    rw [hv]
    cases sp.latch <;> rfl
  rw [Span.derive, hlatch, hv]

/-- What an epoch started and a derivation leave of a record: the state is the one set, the totals, the latch and the hold
stand (R84, R121). -/
structure Restarted (sp x : Span) (now : LineTime) (state : SpanState) : Prop where
  epoch : x.epochStarted now
  verdict : x.latchedOrBlind
  state_eq : x.state = state
  line : x.line = sp.line
  q : x.q = sp.q
  s : x.s = sp.s
  d : x.d = sp.d
  latch : x.latch = sp.latch
  hold : x.hold = sp.hold
  o : x.o = satS48 sp.excess

theorem satS48_eq (x : Int) : satS48 x = max (-2 ^ 47) (min x (2 ^ 47 - 1)) := rfl

theorem overS48_iff (x : Int) : overS48 x = true ↔ x < -2 ^ 47 ∨ 2 ^ 47 - 1 < x := by
  rw [overS48_eq, decide_eq_true_iff]
  omega

theorem restarted_epochStarted (sp : Span) (now : LineTime) (v : SpanState) :
    ({ sp.epoch now with state := v, verdict := if sp.latch then .leak else .blind } : Span).epochStarted now := by
  refine ⟨rfl, rfl, rfl, rfl, rfl, rfl, rfl, rfl, rfl, rfl, rfl, rfl, rfl, rfl, fun x hx => ?_⟩
  obtain rfl : x = sp.excess := by
    rw [hx, Span.excess, Span.vSpan]
    cases hl : sp.line <;> simp [Span.epoch, hl]
  exact ⟨rfl, overS48_iff _⟩

theorem restarted_restarts (sp : Span) (now : LineTime) (v : SpanState) : Restarted sp (sp.restarted now v) now v := by
  have h : sp.restarted now v = { sp.epoch now with state := v, verdict := if sp.latch then .leak else .blind } :=
    derive_of_blind (.inr (Nat.zero_lt_succ 15))
  rw [h]
  exact ⟨restarted_epochStarted sp now v, rfl, rfl, rfl, rfl, rfl, rfl, rfl, rfl, rfl⟩

end

section
variable {s t v : State} {j : SpanId} {l : SpanLine} {pre : PortId → List (NoticeBody × Bool)} {event : SpanEvent}
  {state : SpanState} {before : Verdict} {ks : List NoticeKey}

/-! Notices of one event: others before it, then the SPAN and the VERDICT notice of one span. -/

/-- No notice of these has a key of span j. -/
structure BesideSpan (j : SpanId) (xs : List (NoticeBody × Bool)) : Prop where
  span : xs.filter (fun x => x.1.key == .span j) = []
  verdict : xs.filter (fun x => x.1.key == .verdict j) = []

theorem besideSpan_nil (j : SpanId) : BesideSpan j [] := ⟨rfl, rfl⟩

theorem besideSpan_stationNotices {st : StationId} (q : PortId) : BesideSpan j (s.stationNotices t st q) :=
  ⟨stationNotices_filter_ne (by simp), stationNotices_filter_ne (by simp)⟩

theorem NoticesAs.endsTold_of_span_verdict
    (h : NoticesAs s t fun q => pre q ++ spanNotices j l event state q ++ v.verdictNotices j l before q)
    (hp : ∀ q, BesideSpan j (pre q)) : s.endsTold t j l (.span j event state) :=
  h.endsTold fun q hq => by
    rw [List.filter_append, List.filter_append, (hp q).span, spanNotices_filter_self hq,
      verdictNotices_filter_ne (by simp)]
    rfl

theorem NoticesAs.verdictTold_of_span_verdict
    (h : NoticesAs s t fun q => pre q ++ spanNotices j l event state q ++ v.verdictNotices j l before q)
    (hv : t.span j = v.span j) (hp : ∀ q, BesideSpan j (pre q)) : s.verdictTold t j l before :=
  verdictTold_of_last h (ys := fun q => pre q ++ spanNotices j l event state q) (fun _ => rfl) hv fun q => by
    rw [List.filter_append, (hp q).verdict, spanNotices_filter_ne (by simp)]
    rfl

theorem NoticesAs.gained_of_span_verdict
    (h : NoticesAs s t fun q => pre q ++ spanNotices j l event state q ++ v.verdictNotices j l before q)
    (hv : t.span j = v.span j) (hk : ∀ q, ((pre q).map fun x => x.1.key).Sublist ks)
    (hn : (ks ++ [NoticeKey.span j] ++ [NoticeKey.verdict j]).Nodup) (q : PortId) :
    s.gained t q (pre q ++ spanNotices j l event state q ++ t.verdictNotices j l before q) := by
  rw [verdictNotices_congr hv]
  exact h.gained (keys_nodup (keys_append (keys_append (hk q) spanNotices_keys) verdictNotices_keys) hn)

/-! Notices of one event: others before it, then the VERDICT and the SPAN notice of one span. -/

theorem NoticesAs.endsTold_of_verdict_span
    (h : NoticesAs s t fun q => pre q ++ v.verdictNotices j l before q ++ spanNotices j l event state q)
    (hp : ∀ q, BesideSpan j (pre q)) : s.endsTold t j l (.span j event state) :=
  h.endsTold fun q hq => by
    rw [List.filter_append, List.filter_append, (hp q).span, spanNotices_filter_self hq,
      verdictNotices_filter_ne (by simp)]
    rfl

theorem NoticesAs.verdictTold_of_verdict_span
    (h : NoticesAs s t fun q => pre q ++ v.verdictNotices j l before q ++ spanNotices j l event state q)
    (hv : t.span j = v.span j) (hp : ∀ q, BesideSpan j (pre q)) : s.verdictTold t j l before :=
  h.verdictTold fun q _ => by
    rw [List.filter_append, List.filter_append, (hp q).verdict, spanNotices_filter_ne (by simp), verdictNotices_congr hv]
    simp

theorem NoticesAs.gained_of_verdict_span
    (h : NoticesAs s t fun q => pre q ++ v.verdictNotices j l before q ++ spanNotices j l event state q)
    (hv : t.span j = v.span j) (hk : ∀ q, ((pre q).map fun x => x.1.key).Sublist ks)
    (hn : (ks ++ [NoticeKey.verdict j] ++ [NoticeKey.span j]).Nodup) (q : PortId) :
    s.gained t q (pre q ++ t.verdictNotices j l before q ++ spanNotices j l event state q) := by
  rw [verdictNotices_congr hv]
  exact h.gained (keys_nodup (keys_append (keys_append (hk q) verdictNotices_keys) spanNotices_keys) hn)

end

section
variable {s t u : State} {p : PortId} {id : Byte} {j : SpanId} {l : SpanLine}

/-! SPAN_CLOSE (R15). -/

theorem answerSpanClose_of_absent (h : ∀ j : SpanId, id.toNat = j.num → (s.span j).line = none) :
    answerSpanClose p id s = refuse s .noSpan := by
  simp [answerSpanClose, spanNamed_eq_none h]

theorem answerSpanClose_of_present (hid : id.toNat = j.num) (hl : (s.span j).line = some l) : answerSpanClose p id s =
    if !isEndOf p j l then refuse s .notParty
    else if (s.span j).state = .closed then doneWith s
    else doneWith (s.closeSpan j) := by
  simp [answerSpanClose, spanNamed_eq_some_iff.2 ⟨hid, hl⟩]

theorem exec_spanClose_of_not_closed (ht : s.takes p) (hid : id.toNat = j.num) (hl : (s.span j).line = some l)
    (hp : p = l.upstream ∨ p = j.downStation) (hc : (s.span j).state ≠ .closed) :
    exec (.spanClose p id) s = .next (((s.setRx p .hunt).closeSpan j).reply p 0x21 .done .none) := by
  have he : ¬ (!isEndOf p j l) = true := by simp [isEndOf_iff.mpr hp]
  exact exec_requestRow_of_answer (r := .spanClose id) ht
    ((answerSpanClose_of_present (s := s.setRx p .hunt) hid hl).trans ((if_neg he).trans (if_neg hc)))

/-- What a close does to the store and the span table (R15, R68). -/
theorem closeSpan_store (s : State) (j : SpanId) : (s.closeSpan j).free = s.free ++ indicesOf (s.queue j) ∧
    (s.closeSpan j).queue j = [] ∧ (s.closeSpan j).span j = (s.span j).closedOf ∧
    (∀ k, k ≠ j → (s.closeSpan j).queue k = s.queue k ∧ (s.closeSpan j).span k = s.span k) ∧
    s.sameWatches (s.closeSpan j) := by
  have h := closeSpan_noticesOnly s j
  have hq : (s.release j).queue j = [] := setQueue_queue_same (s.setFree (s.free ++ indicesOf (s.queue j))) j []
  refine ⟨h.free_eq, (h.queue_eq j).trans hq, (h.span_eq j).trans (setSpan_span_same _ _ _), fun k hk =>
    ⟨(h.queue_eq k).trans (setQueue_queue_ne (s.setFree (s.free ++ indicesOf (s.queue j))) j [] hk),
      (h.span_eq k).trans (setSpan_span_ne _ _ _ hk)⟩, fun i => h.watch_eq i⟩

/-- A close tells the ends of the verdict, then of the span (R15, R126). -/
theorem raisedAs_closeSpan (hl : (s.span j).line = some l) : RaisedAs s (s.closeSpan j) fun q =>
    (s.closeSpan j).verdictNotices j l (s.span j).verdict q ++ spanNotices j l .closed .closed q := by
  have hspan : ((s.release j).setSpan j (s.span j).closedOf).span j = (s.span j).closedOf := setSpan_span_same _ _ _
  have h := (raisedAs_announceVerdict_raiseSpan (s := (s.release j).setSpan j (s.span j).closedOf)
    (by rw [hspan]; exact hl) .closed (s.span j).verdict).after (s := s) rfl rfl
  rw [hspan] at h
  rw [verdictNotices_congr ((closeSpan_noticesOnly s j).span_eq j)]
  exact h

end

end Sys2Proof.Machine

open Sys2Proof Sys2Proof.Machine

/-- Settles O31: the refusals in order, and the close, which tells of the verdict before the span. -/
theorem spanCloseReleases : Obligations.SpanCloseReleases := by
  unfold Obligations.SpanCloseReleases
  intro s p id ht
  refine ⟨fun h => exec_requestRow_of_refuse (r := .spanClose id) ht (answerSpanClose_of_absent h),
    fun j l hid hl => ⟨fun hu hd => ?notParty, fun hp hc => ?closed, fun hp hc => ?closes⟩⟩
  case notParty =>
    have he : (!isEndOf p j l) = true := by simp [not_isEndOf hu hd]
    exact exec_requestRow_of_refuse (r := .spanClose id) ht
      ((answerSpanClose_of_present (s := s.setRx p .hunt) hid hl).trans (if_pos he))
  case closed =>
    have he : ¬ (!isEndOf p j l) = true := by simp [isEndOf_iff.mpr hp]
    exact exec_requestRow_of_report (r := .spanClose id) ht
      ((answerSpanClose_of_present (s := s.setRx p .hunt) hid hl).trans ((if_neg he).trans (if_pos hc)))
  case closes =>
    have hexec := exec_spanClose_of_not_closed ht hid hl hp hc
    obtain ⟨hfree, hqueue, hspan, hother, hwatches⟩ := closeSpan_store (s.setRx p .hunt) j
    have hraised := raisedAs_closeSpan (s := s.setRx p .hunt) hl
    have hengine := engineOnly_closeSpan (s := s.setRx p .hunt) j
    generalize (s.setRx p .hunt).closeSpan j = u at hexec hfree hqueue hspan hother hwatches hraised hengine
    obtain ⟨hstations, hsegments, hsetUp, hlinks, hreplied⟩ := answered_of_engineOnly hengine 0x21 .done .none
    have hnotices : NoticesAs s (u.reply p 0x21 .done .none) fun q =>
        [] ++ u.verdictNotices j l (s.span j).verdict q ++ spanNotices j l .closed .closed q :=
      hraised.noticesAs (linkOnly_setRx p .hunt) (linkOnly_reply p 0x21 .done .none)
    exact ⟨_, hexec, hfree, hqueue, hspan.trans (by simp [Span.closedOf, hl]), hnotices.endsTold_of_verdict_span fun _ => besideSpan_nil j,
      hnotices.verdictTold_of_verdict_span rfl fun _ => besideSpan_nil j,
      hnotices.gained_of_verdict_span rfl (ks := []) (fun _ => .slnil) (by simp), hother, hstations, hsegments, hwatches,
      hsetUp, hlinks, hreplied⟩

end

section
/-! SPAN_OPEN (R13, R14): the allocation that it makes, whatever the reception of its request did to the port's link, and the
record that it opens. -/

namespace Sys2Proof.Machine

/-! What samples and allocations do does not depend on the links of the ports. -/

section
variable {s t : State}

theorem Port.raise_congr {p q : Port} (hu : q.urgent = p.urgent) (hr : q.routine = p.routine) (body : NoticeBody)
    (urgent : Bool) (now : LineTime) : (q.raise body urgent now).urgent = (p.raise body urgent now).urgent ∧
      (q.raise body urgent now).routine = (p.raise body urgent now).routine := by
  have hq : ∀ us rs, (q.withNotices us rs).urgent = (p.withNotices us rs).urgent ∧
      (q.withNotices us rs).routine = (p.withNotices us rs).routine := fun _ _ => ⟨rfl, rfl⟩
  simp only [Port.raise, hu, hr]
  split
  · exact hq _ _
  · split <;> split <;> exact hq _ _

theorem LinkOnly.raise (h : LinkOnly s t) (p : PortId) (body : NoticeBody) (urgent : Bool) :
    LinkOnly (s.raise p body urgent) (t.raise p body urgent) := by
  have hnotices := Port.raise_congr (h.urgent p) (h.routine p) body urgent s.lineTime
  have hport : ∀ q, ((t.raise p body urgent).port q).urgent = ((s.raise p body urgent).port q).urgent ∧
      ((t.raise p body urgent).port q).routine = ((s.raise p body urgent).port q).routine := fun q => by
    by_cases hq : q = p
    · subst hq
      rw [raise_port_same, raise_port_same, h.lineTime_eq]
      exact hnotices
    · rw [raise_port_ne _ _ _ _ hq, raise_port_ne _ _ _ _ hq]
      exact ⟨h.urgent q, h.routine q⟩
  refine ⟨?_, fun q => (hport q).1, fun q => (hport q).2⟩
  have hrest := h.rest
  rw [State.raise, State.setPort, State.raise, State.setPort, hrest]

theorem LinkOnly.setWatch (h : LinkOnly s t) (i : WatchId) (w : Watch) : LinkOnly (s.setWatch i w) (t.setWatch i w) :=
  ⟨by rw [h.rest]; rfl, h.urgent, h.routine⟩

theorem LinkOnly.setFree (h : LinkOnly s t) (xs : List Nat) : LinkOnly (s.setFree xs) (t.setFree xs) :=
  ⟨by rw [h.rest]; rfl, h.urgent, h.routine⟩

theorem LinkOnly.setQueue (h : LinkOnly s t) (j : SpanId) (ps : List Parcel) : LinkOnly (s.setQueue j ps) (t.setQueue j ps) :=
  ⟨by rw [h.rest]; rfl, h.urgent, h.routine⟩

theorem LinkOnly.freezeOwned (h : LinkOnly s t) (p : PortId) (frozen : Bool) :
    LinkOnly (s.freezeOwned p frozen) (t.freezeOwned p frozen) := ⟨by rw [h.rest]; rfl, h.urgent, h.routine⟩

theorem LinkOnly.watch_eq (h : LinkOnly s t) (i : WatchId) : t.watch i = s.watch i := by
  rw [h.rest]
  rfl

theorem LinkOnly.store_eq (h : LinkOnly s t) : t.free = s.free ∧ t.queues = s.queues := by
  rw [h.rest]
  exact ⟨rfl, rfl⟩

theorem LinkOnly.onOverflow (h : LinkOnly s t) (i : WatchId) (w : Watch) :
    LinkOnly (s.onOverflow i w) (t.onOverflow i w) := by
  unfold State.onOverflow
  cases w.owner with
  | none => exact h
  | some p =>
    have hraise : LinkOnly (if w.notify then s.raise p (.watch i w.value) false else s)
        (if w.notify then t.raise p (.watch i w.value) false else t) := by
      split
      · exact h.raise p _ _
      · exact h
    simp only
    split
    · exact hraise.freezeOwned p true
    · exact hraise

theorem LinkOnly.offerTo (h : LinkOnly s t) (x : Sample) (i : WatchId) : LinkOnly (s.offerTo x i) (t.offerTo x i) := by
  simp only [State.offerTo, h.watch_eq]
  split
  · split
    · exact (h.setWatch i _).onOverflow i _
    · exact h.setWatch i _
  · exact h

theorem LinkOnly.offer (h : LinkOnly s t) (x : Sample) : LinkOnly (s.offer x) (t.offer x) := by
  unfold State.offer
  generalize allWatches = is
  induction is generalizing s t with
  | nil => exact h
  | cons i is ih => exact ih (h.offerTo x i)

theorem LinkOnly.reclaim (h : LinkOnly s t) : LinkOnly s.reclaim t.reclaim := by
  obtain ⟨hf, hq⟩ := h.store_eq
  have hfull : t.fullest = s.fullest := fullest_congr hq
  have hqueue : t.queue s.fullest = s.queue s.fullest := queue_congr hq _
  obtain ⟨a, b, rest, hs⟩ | hs := two_or_fewer (s.queue s.fullest)
  · have ht : t.queue t.fullest = a :: b :: rest := by rw [hfull, hqueue, hs]
    rw [reclaim_of_two hs, reclaim_of_two ht, hfull, hf]
    exact ((h.setQueue _ _).setFree _).offer _
  · rw [reclaim_of_fewer hs, reclaim_of_fewer (by rw [hfull, hqueue]; exact hs)]
    exact h

theorem LinkOnly.takeFree (h : LinkOnly s t) : LinkOnly s.takeFree.2 t.takeFree.2 := by
  unfold State.takeFree
  rw [h.store_eq.1]
  split
  · exact h
  · exact h.setFree _

theorem LinkOnly.allocate (h : LinkOnly s t) : LinkOnly s.allocate.2 t.allocate.2 := by
  unfold State.allocate
  rw [h.store_eq.1]
  split
  · exact h.reclaim.takeFree
  · exact h.takeFree

end

section
variable {s t : State} {p : PortId} {id : Byte} {cFill : BitVec 16} {j : SpanId} {l : SpanLine}

/-- An allocation reaches no empty queue (R58). -/
theorem allocate_queue_nil (h : s.queue j = []) : s.allocate.2.queue j = [] := by
  cases hf : s.free with
  | cons i rest =>
    rw [allocate_of_free s i rest hf]
    exact h
  | nil =>
    obtain ⟨a, b, rest, hq⟩ | hq := two_or_fewer (s.queue s.fullest)
    · have hj : j ≠ s.fullest := fun hj => by simp [← hj, h] at hq
      rw [(allocate_queue_of_two hf hq).2 j hj, h]
    · have ha : s.allocate = s.takeFree := by
        rw [State.allocate, reclaim_of_fewer hq, ite_self]
      rw [ha, State.takeFree, hf]
      exact h

theorem exec_spanOpen_of_passed (ht : s.takes p) (hid : id.toNat = j.num) (hl : (s.span j).line = some l) (hp : p = l.upstream)
    (hs : (s.span j).state = .closed) (hu : s.inService l.upstream = true) (hd : s.inService j.downStation = true)
    (hc : cFill.toNat ≤ ((s.station p).banks.get (s.station p).active).cMax * 10) : exec (.spanOpen p id cFill) s =
      .next (((s.setRx p .hunt).openSpan j l cFill.toNat).reply p 0x20 .done .none) := by
  have hb : ¬ (!(s.setRx p .hunt).bothEndsIn j l) = true := by
    simp [bothEndsIn_iff (s := s.setRx p .hunt).mpr ⟨hu, hd⟩]
  exact exec_requestRow_of_answer (r := .spanOpen id cFill) ht ((answerSpanOpen_of_present (s := s.setRx p .hunt) hid hl).trans
    ((if_neg (not_not.mpr hp)).trans ((if_neg (not_not.mpr hs)).trans ((if_neg hb).trans (if_neg (not_lt.mpr hc))))))

/-- The record that SPAN_OPEN leaves (R14). -/
theorem openedWith_restarts (sp : Span) (now : LineTime) (v m : Nat) :
    Restarted { sp with q := v, s := m, d := 0 } (sp.openedWith now v m) now .opened :=
  restarted_restarts _ _ _

/-- The record of an opened span in the words of the statement: O is 0, since Q is the fill volume and D is 0 (R14, R84). -/
theorem openedWith_opened {sp : Span} (hl : sp.line = some l) (now : LineTime) (m : Nat) :
    ∀ x, x = sp.openedWith now l.vSpan m → x.state = .opened ∧ x.line = some l ∧ x.q = l.vSpan ∧ x.s = m ∧ x.d = 0 ∧ x.o = 0 ∧
      x.epochStarted now ∧ x.hold = sp.hold ∧ x.latch = sp.latch ∧ x.latchedOrBlind := by
  rintro x rfl
  have hr := openedWith_restarts sp now l.vSpan m
  have hexcess : Span.excess { sp with q := l.vSpan, s := m, d := 0 } = 0 := by
    rw [excess_of_line (sp := { sp with q := l.vSpan, s := m, d := 0 }) hl]
    simp
  refine ⟨hr.state_eq, hr.line.trans hl, hr.q, hr.s, hr.d, hr.o.trans ?_, hr.epoch, hr.hold, hr.latch, hr.verdict⟩
  rw [hexcess]
  rfl

/-- The prime parcel in the words of the statement (R14). -/
theorem primeParcel_eq (i : Nat) (l : SpanLine) (now : LineTime) (cFill : BitVec 16) (x : Station) (holdRuns : Bool) :
    primeParcel i l now cFill.toNat x holdRuns = ⟨i, l.upstream, now, l.vSpan,
      (l.vSpan * cFill.toNat * (x.banks.get x.active).rhoS + 5000000) / 10000000, x.active,
      { Flags.none with prime := true, water := decide (cFill = 0), transient := holdRuns }⟩ := by
  have hwater : (cFill.toNat == 0) = decide (cFill = 0) := by
    rw [beq_eq_decide]
    exact decide_eq_decide.mpr (BitVec.toNat_inj (y := 0))
  rw [primeParcel, Flags.ofPrime, hwater, massOf]

/-- What an opening does to the store and the span table: what its allocation does, the prime parcel and the record (R14). -/
theorem openSpan_store (s : State) (l : SpanLine) (c : Nat) (h : s.queue j = []) :
    ∃ x : Parcel, x = primeParcel s.allocate.1 l s.lineTime c (s.station l.upstream) (s.span j).hold.isSome ∧
      (s.openSpan j l c).free = s.allocate.2.free ∧ (s.openSpan j l c).queue j = [x] ∧
      (s.openSpan j l c).span j = (s.span j).openedWith s.lineTime l.vSpan x.solids ∧
      (∀ k, k ≠ j → (s.openSpan j l c).queue k = s.allocate.2.queue k ∧ (s.openSpan j l c).span k = s.span k) ∧
      OfferedTo s (s.openSpan j l c) s.reclaimOffers := by
  obtain ⟨x, hx, hn⟩ := openSpan_noticesOnly s j l c
  have hspan := (storeOnly_allocate s).span_eq
  refine ⟨x, hx, hn.free_eq, (hn.queue_eq j).trans ?_, (hn.span_eq j).trans ?_, fun k hk =>
    ⟨(hn.queue_eq k).trans (setQueue_queue_ne _ _ _ hk), (hn.span_eq k).trans ?_⟩,
    ⟨Eq.trans ?_ (offeredTo_allocate s).watches⟩⟩
  · exact (setQueue_queue_same _ _ _).trans (by rw [allocate_queue_nil h]; rfl)
  · rw [setSpan_span_same, hspan]
  · rw [setSpan_span_ne _ _ _ hk]
    exact hspan k
  · rw [hn.rest]
    rfl

/-- An opening tells the ends, after its allocation: of the span, then of the verdict (R14, R126). -/
theorem raisedAs_openSpan (hl : (s.span j).line = some l) (c : Nat) : RaisedAs s.allocate.2 (s.openSpan j l c) fun q =>
    spanNotices j l .opened .opened q ++ (s.openSpan j l c).verdictNotices j l (s.span j).verdict q := by
  obtain ⟨x, hx, hn⟩ := openSpan_noticesOnly s j l c
  have hspan : ((s.allocate.2.append j x).setSpan j ((s.allocate.2.span j).openedWith s.lineTime l.vSpan x.solids)).span j =
      (s.span j).openedWith s.lineTime l.vSpan x.solids := by
    rw [setSpan_span_same, (storeOnly_allocate s).span_eq]
  have hr := openedWith_restarts (s.span j) s.lineTime l.vSpan x.solids
  have h := raisedAs_raiseSpan_announceVerdict (s := (s.allocate.2.append j x).setSpan j
    ((s.allocate.2.span j).openedWith s.lineTime l.vSpan x.solids)) (by rw [hspan, hr.line]; exact hl) .opened
    (s.span j).verdict
  rw [hspan, hr.state_eq] at h
  rw [verdictNotices_congr (hn.span_eq j)]
  subst hx
  exact h.after rfl rfl

end

end Sys2Proof.Machine

open Sys2Proof Sys2Proof.Machine

/-- Settles O29: the allocation is that of the state before, whatever the reception did to the port's link; the notices of the
opening follow those of the allocation. -/
theorem spanOpenOpens : Obligations.SpanOpenOpens := by
  unfold Obligations.SpanOpenOpens
  rintro s u p id cFill j l b i ht hid hl rfl hs hu hd rfl hc ha hempty
  have hlink : LinkOnly s (s.setRx l.upstream .hunt) := linkOnly_setRx _ _
  have hexec := exec_spanOpen_of_passed ht hid hl rfl hs hu hd hc
  obtain ⟨hi, hfree', hqueues'⟩ := allocate_congr (s := s) (t := s.setRx l.upstream .hunt) rfl rfl
  have hlink' := hlink.allocate
  obtain ⟨x, hx, hfree, hqueue, hspan, hother, hoffered⟩ := openSpan_store (s.setRx l.upstream .hunt) l cFill.toNat
    (j := j) (hempty j hs)
  have hraised := raisedAs_openSpan (s := s.setRx l.upstream .hunt) (j := j) hl cFill.toNat
  obtain ⟨ws, hws⟩ := watchRaised_allocate (s.setRx l.upstream .hunt)
  have hengine := engineOnly_openSpan (s := s.setRx l.upstream .hunt) j l cFill.toNat
  generalize (s.setRx l.upstream .hunt).openSpan j l cFill.toNat = w at hexec hfree hqueue hspan hother hoffered hraised hengine
  generalize (s.setRx l.upstream .hunt).allocate = a at hi hfree' hqueues' hlink' hx hfree hother hraised hws
  rw [ha] at hi hfree' hqueues' hlink'
  rw [primeParcel_eq, hi] at hx
  have hsolids := congrArg Parcel.solids hx
  obtain ⟨hstate, hline, hq, hsum, hd0, ho, hepoch, hhold, hlatch, hverdict⟩ := openedWith_opened hl s.lineTime x.solids _ hspan
  have hafter : NoticesAs u (w.reply l.upstream 0x20 .done .none) fun q =>
      [] ++ spanNotices j l .opened .opened q ++ w.verdictNotices j l (s.span j).verdict q :=
    hraised.noticesAs hlink' (linkOnly_reply _ _ _ _)
  have hall : NoticesAs s (w.reply l.upstream 0x20 .done .none) fun q =>
      ws q ++ spanNotices j l .opened .opened q ++ w.verdictNotices j l (s.span j).verdict q :=
    ((hws.raised.trans hraised).congr fun q => (List.append_assoc _ _ _).symm).noticesAs hlink (linkOnly_reply _ _ _ _)
  have hbeside : ∀ q, BesideSpan j (ws q) := fun q => ⟨hws.filter_key q rfl, hws.filter_key q rfl⟩
  obtain ⟨hstations, hsegments, hsetUp, hlinks, hreplied⟩ := answered_of_engineOnly hengine 0x20 .done .none
  exact ⟨_, hexec, hfree.trans hfree', hqueue.trans (congrArg (fun y => [y]) hx), hstate, hline, hq, hsum.trans hsolids, hd0, ho,
    hepoch, hhold, hlatch, hverdict, hall.endsTold_of_span_verdict hbeside, hall.verdictTold_of_span_verdict rfl hbeside,
    hafter.gained_of_span_verdict rfl (ks := []) (fun _ => .slnil) (by simp),
    fun k hk => ⟨(hother k hk).1.trans (queue_congr hqueues' k), (hother k hk).2⟩, hstations, hsegments,
    ((OfferedTo.of_watches (s := s) (t := s.setRx l.upstream .hunt) rfl).trans hoffered).offered, hsetUp, hlinks, hreplied⟩

end

section
/-! What a span draws from its segments (R12, R129), and the application of agreed settings (R137 to R139). -/

namespace Sys2Proof.Machine

section
variable {s t u : State} {j : SpanId} {k : SegId} {l : SpanLine}

/-! A present span's record is drawn from the segments it covers. -/

/-- The largest of a list of numbers, folded from a floor. -/
theorem foldl_max_spec (xs : List Nat) (a : Nat) :
    a ≤ xs.foldl max a ∧ (∀ x ∈ xs, x ≤ xs.foldl max a) ∧ (xs.foldl max a = a ∨ xs.foldl max a ∈ xs) := by
  induction xs generalizing a with
  | nil => exact ⟨le_rfl, fun x hx => absurd hx List.not_mem_nil, .inl rfl⟩
  | cons y ys ih =>
    obtain ⟨hfloor, hall, hmem⟩ := ih (max a y)
    rw [List.foldl_cons]
    refine ⟨(le_max_left a y).trans hfloor, fun x hx => ?_, ?_⟩
    · obtain rfl | hx := List.mem_cons.mp hx
      · exact (le_max_right a x).trans hfloor
      · exact hall x hx
    · obtain h | h := hmem
      · rw [h]
        obtain hm | hm := max_choice a y
        · exact .inl hm
        · exact .inr (by rw [hm]; exact List.mem_cons_self)
      · exact .inr (List.mem_cons_of_mem y h)

theorem foldl_max_mem {xs : List Nat} (h : xs ≠ []) : xs.foldl max 0 ∈ xs := by
  obtain ⟨-, hall, hmem⟩ := foldl_max_spec xs 0
  obtain h0 | hmem := hmem
  · obtain ⟨x, ys, rfl⟩ := List.exists_cons_of_ne_nil h
    have hx : x = 0 := Nat.le_zero.mp (h0 ▸ hall x List.mem_cons_self)
    rw [h0, hx]
    exact List.mem_cons_self
  · exact hmem

theorem coveredSegments_eq (up : StationId) (j : SpanId) : coveredSegments up j =
    ([.one, .two, .three] : List SegId).filter (fun k => decide (up.val < k.num ∧ k.num ≤ j.num)) := by
  simp only [coveredSegments, SegId.all, Bool.decide_and]

theorem mem_coveredSegments {up : StationId} : k ∈ coveredSegments up j ↔ up.val < k.num ∧ k.num ≤ j.num := by
  have h : k ∈ SegId.all := by cases k <;> decide
  simp [coveredSegments, h]

theorem segmentLeaving_num {up : StationId} (h : up.val < 3) : (segmentLeaving up).num = up.val + 1 := by
  fin_cases up
  · rfl
  · rfl
  · rfl
  · exact absurd h (by decide)

/-- What R12 derives is drawn from the segments as R129 says. -/
theorem derivedLine_drawn (s : State) (j : SpanId) : s.drawnFromSegments j (s.derivedLine j) := by
  have hlt := derivedLine_upstream_lt s j
  have hj : j.num ≤ 3 := by cases j <;> decide
  refine ⟨segmentLeaving_num (hlt.trans_le hj), rfl, fun ks hks => ?_⟩
  rw [← coveredSegments_eq] at hks
  have hvC : (s.derivedLine j).thr.vC = (ks.map (fun k => (s.segment k).settings.vC)).foldl max 0 := by rw [hks]; rfl
  obtain ⟨-, hall, -⟩ := foldl_max_spec (ks.map (fun k => (s.segment k).settings.vC)) 0
  have hmem : (ks.map (fun k => (s.segment k).settings.vC)).foldl max 0 ∈ ks.map (fun k => (s.segment k).settings.vC) := by
    refine foldl_max_mem fun hnil => ?_
    rw [List.map_eq_nil_iff] at hnil
    exact List.not_mem_nil (hnil ▸ hks ▸ mem_coveredSegments.mpr ⟨hlt, le_rfl⟩)
  obtain ⟨k, hk, hkv⟩ := List.mem_map.mp hmem
  refine ⟨by rw [hks]; rfl, by rw [hks]; rfl, by rw [hks]; rfl, by rw [hks]; rfl, fun k hk => ?_, ⟨k, hk, hkv.trans hvC.symm⟩,
    rfl, rfl, rfl⟩
  rw [hvC]
  exact hall _ (List.mem_map_of_mem hk)

theorem lineOf_drawn (h : s.lineOf j = some l) : s.drawnFromSegments j l := by
  obtain ⟨-, rfl⟩ := lineOf_some h
  exact derivedLine_drawn s j

/-! Notices depend on a span's record by its upstream end alone. -/

theorem spanNotices_congr {l' : SpanLine} (h : l'.upstream = l.upstream) (j : SpanId) (event : SpanEvent)
    (state : SpanState) : spanNotices j l' event state = spanNotices j l event state := by
  funext q
  simp only [spanNotices, h]

theorem verdictNotices_congr_line {l' : SpanLine} (h : l'.upstream = l.upstream) (j : SpanId) (before : Verdict) :
    s.verdictNotices j l' before = s.verdictNotices j l before := by
  funext q
  simp only [State.verdictNotices, h]

/-! The notices of an application (R137, R138). -/

theorem geometryEpoch_of_not_closed (h : (s.span j).state ≠ .closed) : s.geometryEpoch j =
    ((s.setSpan j ((s.span j).epoch s.lineTime).derive).raiseSpan j .newEpoch).announceVerdict j (s.span j).verdict :=
  if_neg h

theorem raisedAs_geometryEpoch (h : (s.span j).state ≠ .closed) (hl : (s.span j).line = some l) :
    RaisedAs s (s.geometryEpoch j) fun q => spanNotices j l .newEpoch (s.span j).state q ++
      (s.geometryEpoch j).verdictNotices j l (s.span j).verdict q := by
  have hspan := setSpan_span_same s j ((s.span j).epoch s.lineTime).derive
  have hr := raisedAs_raiseSpan_announceVerdict (s := s.setSpan j ((s.span j).epoch s.lineTime).derive)
    (by rw [hspan]; exact hl) .newEpoch (s.span j).verdict
  rw [hspan] at hr
  rw [verdictNotices_congr ((geometryEpoch_noticesOnly s j h).span_eq j), geometryEpoch_of_not_closed h]
  exact hr.after rfl rfl

theorem raisedAs_applied (s : State) (k : SegId) :
    RaisedAs s ((s.raiseSettings k.upStation k .applied).raiseSettings k.downStation k .applied) (appliedNotices k) := by
  refine ((raisedAs_raise s k.upStation (.settings k .applied) false).trans
    (raisedAs_raise _ k.downStation (.settings k .applied) false)).congr fun q => ?_
  have hne : k.upStation ≠ k.downStation := by cases k <;> decide
  unfold appliedNotices
  by_cases hu : q = k.upStation
  · rw [if_pos hu, if_neg fun hd => hne (hu.symm.trans hd), if_pos (Or.inl hu), List.append_nil]
  · rw [if_neg hu, List.nil_append]
    by_cases hd : q = k.downStation
    · rw [if_pos hd, if_pos (Or.inr hd)]
    · rw [if_neg hd, if_neg fun h => h.elim hu hd]

/-- The state with the settings of a segment applied, before the span that contains it (R137). -/
def State.segmentApplied (s : State) (k : SegId) (x : Settings) : State := s.setSegment k ((s.segment k).applied x)

/-- An application tells both ends of the segment, and then, where it starts an epoch, the ends of the span (R137, R138). -/
theorem raisedAs_applySettings {x : Settings} {l' : SpanLine} (hj : s.spanContaining k = some j)
    (hl' : (s.segmentApplied k x).lineOf j = some l') (hup : l'.upstream = l.upstream) :
    RaisedAs s (s.applySettings k x) fun q => appliedNotices k q ++
      if (s.segment k).reshaped x = true ∧ (s.span j).state ≠ .closed then
        spanNotices j l .newEpoch (s.span j).state q ++ (s.applySettings k x).verdictNotices j l (s.span j).verdict q
      else [] := by
  have happlied := (raisedAs_applied (s.segmentApplied k x) k).after (s := s) rfl rfl
  have hn : NoticesOnly (s.segmentApplied k x) (((s.segmentApplied k x).raiseSettings k.upStation k .applied).raiseSettings
      k.downStation k .applied) := (noticesOnly_raise _ _ _ _).trans (noticesOnly_raise _ _ _ _)
  have he : s.applySettings k x = (((s.segmentApplied k x).raiseSettings k.upStation k .applied).raiseSettings
      k.downStation k .applied).applyToSpan k ((s.segment k).reshaped x) := rfl
  generalize ((s.segmentApplied k x).raiseSettings k.upStation k .applied).raiseSettings k.downStation k .applied = u
    at happlied hn he
  have hspan : ∀ i, u.span i = s.span i := hn.span_eq
  have hcont : u.spanContaining k = some j := by rw [spanContaining_congr (s := s) fun i => by rw [hspan], hj]
  have hrec : (u.rederive j).span j = { s.span j with line := some l' } := by
    rw [State.rederive, setSpan_span_same, hspan, hn.lineKept.lineOf j, hl']
  rw [he, State.applyToSpan, hcont]
  cases hc : (s.segment k).reshaped x with
  | false =>
    refine (happlied.trans (.of_ports (t := u.rederive j) rfl rfl)).congr fun q => ?_
    simp
  | true =>
    by_cases ho : (s.span j).state = .closed
    · have hg : (u.rederive j).geometryEpoch j = u.rederive j := if_pos (by rw [hrec]; exact ho)
      simp only [if_true]
      rw [hg]
      refine (happlied.trans (.of_ports (t := u.rederive j) rfl rfl)).congr fun q => ?_
      simp [ho]
    · have hr := raisedAs_geometryEpoch (s := u.rederive j) (j := j) (l := l') (by rw [hrec]; exact ho) (by rw [hrec])
      rw [hrec, spanNotices_congr hup, verdictNotices_congr_line hup] at hr
      simp only [if_true]
      refine (happlied.trans (hr.after rfl rfl)).congr fun q => ?_
      simp [ho]

/-! The commands that apply settings (R132, R133). -/

theorem exec_of_agreement {p : PortId} {segment : Byte} {r : SettingsWire} {q : Proposal} {c : Instr} {reply : Reply}
    (ht : s.takes p) (hk : segment.toNat = k.num) (hn : k.num < s.n) (hp : p = k.upStation ∨ p = k.downStation)
    (hq : (s.segment k).proposal = some q) (ho : q.proposer ≠ p) (hx : q.settings = settingsOf r)
    (hc : (c = .settingsAgree p segment r ∧ reply = ⟨0x31, .done, .none⟩) ∨
      (c = .settingsPropose p segment r ∧ (settingsOf r).valid = true ∧ reply = ⟨0x30, .done, .outcome .applied⟩)) :
    exec c s = .next (((s.setRx p .hunt).applySettings k q.settings).reply p reply.kind reply.result reply.body) := by
  obtain ⟨rfl, rfl⟩ | ⟨rfl, hv, rfl⟩ := hc
  · exact exec_requestRow_of_answer (r := .settingsAgree segment r) ht
      ((answerSettingsAgree_of_proposal (s := s.setRx p .hunt) hk hn hp hq).trans ((if_neg ho).trans (if_pos hx)))
  · exact exec_requestRow_of_answer (r := .settingsPropose segment r) ht
      ((answerSettingsPropose_of_proposal (s := s.setRx p .hunt) hk hn hp hv hq).trans ((if_neg ho).trans (if_pos hx)))

theorem reshaped_iff (g : Segment) (x : Settings) :
    g.reshaped x = true ↔ ¬ (g.settings.length = x.length ∧ g.settings.dPipe = x.dPipe) := by
  simp only [Segment.reshaped, Bool.or_eq_true, bne_iff_ne]
  exact not_and_or.symm

end

end Sys2Proof.Machine

end

section
/-! An agreement: what it leaves of the segment, of the span that contains it and of the rest (R132, R133, R137 to R139). -/

namespace Sys2Proof.Machine

section
variable {s t u : State} {j : SpanId} {k : SegId} {l : SpanLine} {q : PortId}

/-! The APPLIED notices, by key. -/

theorem appliedNotices_filter_self (hq : q = k.upStation ∨ q = k.downStation) :
    (appliedNotices k q).filter (fun x => x.1.key == .settings k) = [(.settings k .applied, false)] := by
  rw [appliedNotices, if_pos hq]
  simp [NoticeBody.key]

theorem besideSpan_appliedNotices (j : SpanId) (k : SegId) (q : PortId) : BesideSpan j (appliedNotices k q) := by
  constructor <;>
  · unfold appliedNotices
    split
    · simp [NoticeBody.key]
    · rfl

theorem appliedNotices_keys : ((appliedNotices k q).map fun x => x.1.key).Sublist [.settings k] := by
  unfold appliedNotices
  split <;> simp [NoticeBody.key]

/-- Both ends of the segment are told APPLIED, whatever is raised of spans and verdicts behind it. -/
theorem NoticesAs.told_applied {ys : PortId → List (NoticeBody × Bool)} (h : NoticesAs s t fun q => appliedNotices k q ++ ys q)
    (hy : ∀ q, (ys q).filter (fun x => x.1.key == .settings k) = []) (hq : q = k.upStation ∨ q = k.downStation) :
    s.told t q (.settings k .applied) := by
  refine h.tells (body := .settings k .applied) ?_ (by simp)
  have hkey : NoticeBody.key (.settings k .applied) = .settings k := rfl
  rw [hkey, List.filter_append, appliedNotices_filter_self hq, hy, List.append_nil]

/-! What an application leaves. -/

/-- What R12 derives of the span that contains the segment, once the settings are applied. -/
theorem segmentApplied_lineOf (x : Settings) (h : s.lineOf j = some l) :
    ∃ l', (s.segmentApplied k x).lineOf j = some l' ∧ l'.upstream = l.upstream := by
  obtain ⟨hend, rfl⟩ := lineOf_some h
  have hend' : (s.segmentApplied k x).isSpanEnd j = true := (isSpanEnd_congr rfl (fun _ => rfl) j).trans hend
  exact ⟨_, if_pos hend', upstreamEnd_congr rfl (fun _ => rfl) j⟩

/-- The state that an application leaves, its notices aside. -/
structure AppliedTo (s t : State) (k : SegId) (x : Settings) (j : SpanId) (l' : SpanLine) : Prop where
  segment : t.segment k = (s.segment k).applied x
  segments : ∀ i, i ≠ k → t.segment i = s.segment i
  span : t.span j = (s.span j).redrawn (some l') ((s.segment k).reshaped x) s.lineTime
  spans : ∀ i, i ≠ j → t.span i = s.span i
  lineOf : t.lineOf j = some l'
  store : s.sameStore t
  watches : s.sameWatches t
  stations : s.sameStations t
  setUp : s.sameSetUp t
  links : s.sameLinks t

theorem applySettings_appliedTo {x : Settings} {l' : SpanLine} (hj : s.spanContaining k = some j)
    (hl' : (s.segmentApplied k x).lineOf j = some l') : AppliedTo s (s.applySettings k x) k x j l' := by
  have hn := applySettings_noticesOnly s k x hj
  have hl : (s.setSegment k ((s.segment k).applied x)).lineOf j = some l' := hl'
  rw [hl] at hn
  have he := hn.engineOnly
  have hline := hn.lineKept.lineOf j
  generalize s.applySettings k x = t at hn he hline
  exact
    { segment := (he.segment_eq k).trans (setSegment_segment_same _ _ _)
      segments := fun i hi => (he.segment_eq i).trans (setSegment_segment_ne _ _ _ hi)
      span := (hn.span_eq j).trans (setSpan_span_same _ _ _)
      spans := fun i hi => (hn.span_eq i).trans (setSpan_span_ne _ _ _ hi)
      lineOf := hline.trans hl
      store := ⟨hn.free_eq, hn.queue_eq⟩
      watches := hn.watch_eq
      stations := ⟨he.same.2.2, he.station_eq⟩
      setUp := he.sameSetUp
      links := hn.sameLinks }

end

end Sys2Proof.Machine

open Sys2Proof Sys2Proof.Machine

/-- Settles O39: both commands apply the pending settings; the one span that contains the segment is redrawn, and told of an
epoch after the settings. -/
theorem agreementAppliesSettings : Obligations.AgreementAppliesSettings := by
  unfold Obligations.AgreementAppliesSettings
  intro s p segment r k q c reply j l ht htop hk hn hp hq ho hx hc hl hu hkj
  have hexec := exec_of_agreement ht hk hn hp hq ho hx hc
  have hj : (s.setRx p .hunt).spanContaining k = some j := spanContaining_eq htop hl hu hkj
  have hlineOf : (s.setRx p .hunt).lineOf j = some l := by rw [← hl, htop.2 j]; rfl
  obtain ⟨l', hl', hup⟩ := segmentApplied_lineOf (k := k) q.settings hlineOf
  have happlied := applySettings_appliedTo hj hl'
  have hraised := raisedAs_applySettings hj hl' hup
  generalize (s.setRx p .hunt).applySettings k q.settings = w at hexec happlied hraised
  obtain ⟨hlinks, hreplied⟩ := answered_links (s := s) (p := p) happlied.links reply.kind reply.result reply.body
  have hnotices := hraised.noticesAs (linkOnly_setRx p .hunt) (linkOnly_reply p reply.kind reply.result reply.body)
  have hline : (w.span j).line = some l' := by rw [happlied.span, redrawn_line]
  have hbeside : ∀ x, (if (s.segment k).reshaped q.settings = true ∧ (s.span j).state ≠ .closed then
      spanNotices j l .newEpoch (s.span j).state x ++ w.verdictNotices j l (s.span j).verdict x else []).filter
        (fun y => y.1.key == .settings k) = [] := fun x => by
    split
    · rw [List.filter_append, spanNotices_filter_ne (by simp), verdictNotices_filter_ne (by simp)]
      rfl
    · rfl
  have htold := fun x => hnotices.told_applied (q := x) hbeside
  by_cases hchanged : (s.segment k).reshaped q.settings = true ∧ (s.span j).state ≠ .closed
  · have hcond : ¬ ((s.segment k).settings.length = q.settings.length ∧ (s.segment k).settings.dPipe = q.settings.dPipe ∨
        (s.span j).state = .closed) := fun h => h.elim ((reshaped_iff _ _).mp hchanged.1) hchanged.2
    have hspan : w.span j = Span.restarted { s.span j with line := some l' } s.lineTime (s.span j).state :=
      happlied.span.trans (redrawn_of_changed _ hchanged)
    have hr := restarted_restarts { s.span j with line := some l' } s.lineTime (s.span j).state
    rw [← hspan] at hr
    have hall : NoticesAs s (w.reply p reply.kind reply.result reply.body) fun x => appliedNotices k x ++
        spanNotices j l .newEpoch (s.span j).state x ++ w.verdictNotices j l (s.span j).verdict x := by
      have hc' : ((s.setRx p .hunt).segment k).reshaped q.settings = true ∧ ((s.setRx p .hunt).span j).state ≠ .closed := hchanged
      simp only [if_pos hc', ← List.append_assoc] at hnotices
      exact hnotices
    have hbeside := besideSpan_appliedNotices j k
    have hgained := hall.gained_of_span_verdict rfl (fun _ => appliedNotices_keys) (by simp)
    simp only [if_neg hcond]
    exact ⟨_, hexec, happlied.segment, htold _ (.inl rfl), htold _ (.inr rfl), ⟨l', hline, hup, lineOf_drawn happlied.lineOf⟩,
      hline.trans happlied.lineOf.symm, ⟨hr.state_eq, hr.epoch, hr.verdict, hr.q, hr.s, hr.d, hr.latch, hr.hold,
        hall.endsTold_of_span_verdict hbeside, hall.verdictTold_of_span_verdict rfl hbeside⟩, happlied.segments, happlied.spans,
      fun x => List.append_assoc (appliedNotices k x) _ _ ▸ hgained x, happlied.store, happlied.stations,
      happlied.watches, happlied.setUp, hlinks, hreplied⟩
  · have hcond : (s.segment k).settings.length = q.settings.length ∧ (s.segment k).settings.dPipe = q.settings.dPipe ∨
        (s.span j).state = .closed := by
      rwa [reshaped_iff, ← not_or, not_not] at hchanged
    have hspan : w.span j = { s.span j with line := some l' } := happlied.span.trans (redrawn_of_same _ hchanged)
    have hall : NoticesAs s (w.reply p reply.kind reply.result reply.body) (appliedNotices k) := by
      have hc' : ¬ (((s.setRx p .hunt).segment k).reshaped q.settings = true ∧ ((s.setRx p .hunt).span j).state ≠ .closed) :=
        hchanged
      simp only [if_neg hc', List.append_nil] at hnotices
      exact hnotices
    simp only [if_pos hcond, List.append_nil]
    exact ⟨_, hexec, happlied.segment, htold _ (.inl rfl), htold _ (.inr rfl), ⟨l', hline, hup, lineOf_drawn happlied.lineOf⟩,
      hline.trans happlied.lineOf.symm, hspan.trans (by rw [← hline]; rfl), happlied.segments, happlied.spans,
      fun x => hall.gained (keys_nodup appliedNotices_keys (by simp)), happlied.store, happlied.stations,
      happlied.watches, happlied.setUp, hlinks, hreplied⟩

end

section
/-! Service changes as commands make them (R4 to R7), and the OPEN or SUSPENDED span of a line end (R16 to R18). -/

namespace Sys2Proof.Machine

section
variable {s t u : State}

/-! A state with other links stands in all else. -/

theorem LinkOnly.span_eq (h : LinkOnly s t) (j : SpanId) : t.span j = s.span j := by
  rw [h.rest]
  rfl

theorem LinkOnly.queue_eq (h : LinkOnly s t) (j : SpanId) : t.queue j = s.queue j := queue_congr h.store_eq.2 j

theorem LinkOnly.station_eq (h : LinkOnly s t) (st : StationId) : t.station st = s.station st := by
  rw [h.rest]
  rfl

theorem LinkOnly.segment_eq (h : LinkOnly s t) (k : SegId) : t.segment k = s.segment k := by
  rw [h.rest]
  rfl

theorem LinkOnly.n_eq (h : LinkOnly s t) : t.n = s.n := by rw [h.rest]

theorem LinkOnly.inService_eq (h : LinkOnly s t) (st : StationId) : t.inService st = s.inService st := by
  rw [State.inService, h.station_eq]
  rfl

theorem LinkOnly.isConfigured_eq (h : LinkOnly s t) (p : PortId) : t.isConfigured p = s.isConfigured p := by
  rw [h.rest]
  rfl

theorem LinkOnly.lineOf_eq (h : LinkOnly s t) (j : SpanId) : t.lineOf j = s.lineOf j :=
  lineOf_congr h.n_eq h.inService_eq h.segment_eq j

theorem LinkOnly.topologyHolds (h : LinkOnly s t) (ht : s.topologyHolds) : t.topologyHolds :=
  ⟨h.n_eq ▸ ht.1, fun j => by rw [h.span_eq, h.lineOf_eq, ht.2]⟩

theorem LinkOnly.watches_eq (h : LinkOnly s t) : t.watches = s.watches := by rw [h.rest]

/-! A command that changes a station's service. -/

/-- A command is a service change, before and after which a request's reception and its reply change links alone. -/
structure ServiceRun (s s0 t : State) (c : Instr) (st : StationId) (v : ServiceState) (e : Option LineTime) : Prop where
  exec : exec c s = .next t
  before : LinkOnly s s0
  after : LinkOnly (s0.changeService st v e) t

theorem leavesBy_run {c : Instr} {st : StationId} (h : s.leavesBy c st) :
    ∃ s0 t v, v ≠ .inService ∧ ServiceRun s s0 t c st v none := by
  obtain ⟨hin, ⟨rfl, ht⟩ | ⟨rfl, hd⟩⟩ := h
  · have hnot : (s.station st).service ≠ .out := by
      rw [inService_eq_true_iff.mp hin]
      simp
    exact ⟨_, _, .out, by simp, exec_stationOut_of_not_out ht hnot, linkOnly_setRx st .hunt, linkOnly_reply st _ _ _⟩
  · exact ⟨s, _, .stale, by simp, exec_silenceExpiry_of_due hin hd, .refl s, .refl _⟩

theorem returnsBy_run {c : Instr} {st : StationId} (h : s.returnsBy c st) :
    ∃ s0 t e, ServiceRun s s0 t c st .inService e := by
  obtain ⟨hout, rfl, ht⟩ := h
  exact ⟨_, _, _, exec_stationIn_of_out ht hout, linkOnly_setRx st .hunt, linkOnly_reply st _ _ _⟩

section
variable {s0 : State} {c : Instr} {st : StationId} {v : ServiceState} {e : Option LineTime}

/-- What a service change finds of the state before it, once it is recorded and told. -/
structure ToldOf (s a : State) (st : StationId) (v : ServiceState) : Prop where
  n : a.n = s.n
  lineTime : a.lineTime = s.lineTime
  free : a.free = s.free
  queues : a.queues = s.queues
  spans : ∀ j, a.span j = s.span j
  segments : ∀ k, a.segment k = s.segment k
  watches : a.watches = s.watches
  inService : ∀ x, a.inService x = if x = st then v == .inService else s.inService x

theorem ServiceRun.toldOf (h : ServiceRun s s0 t c st v e) : ToldOf s (s0.serviceTold st v e) st v := by
  obtain ⟨-, hn, hl, hf, hq, -, hg, hw⟩ := serviceTold_same s0 st v e
  have hs := h.before.rest
  exact
    { n := hn.trans h.before.n_eq
      lineTime := hl.trans h.before.lineTime_eq
      free := hf.trans h.before.store_eq.1
      queues := hq.trans h.before.store_eq.2
      spans := fun j => (serviceTold_span s0 st v e j).trans (h.before.span_eq j)
      segments := fun k => by rw [State.segment, hg]; exact h.before.segment_eq k
      watches := hw.trans (by rw [hs])
      inService := fun x => by rw [serviceTold_inService, h.before.inService_eq] }

/-- A service change raises the STATION notices, then those of its effect on the spans (R7). -/
theorem ServiceRun.noticesAs {xs : PortId → List (NoticeBody × Bool)} (h : ServiceRun s s0 t c st v e)
    (hx : RaisedAs (s0.serviceTold st v e) (s0.changeService st v e) xs) :
    NoticesAs s t fun q => s.stationNotices t st q ++ xs q := by
  have hservice : (t.station st).service = v := by
    rw [h.after.station_eq, (changeService_station st v e).1]
  refine (((raisedAs_serviceTold s0 st v e).trans hx).congr fun q => ?_).noticesAs h.before h.after
  rw [stationNotices_eq hservice, h.before.isConfigured_eq]

end

/-- With a station back in service, both ends of a span that it ends are in service exactly if the other end is. -/
theorem bothEndsIn_of_returned {a : State} {st : StationId} {j : SpanId} {l : SpanLine} (h : ToldOf s a st .inService) :
    a.bothEndsIn j l = true ↔ ∀ q, q = l.upstream ∨ q = j.downStation → q ≠ st → s.inService q = true := by
  have hin : ∀ x, a.inService x = true ↔ (x ≠ st → s.inService x = true) := fun x => by
    rw [h.inService]
    by_cases hx : x = st
    · simp [hx]
    · simp [hx]
  rw [bothEndsIn_iff, hin, hin]
  exact ⟨fun ⟨hu, hd⟩ q hq => hq.elim (fun he => he ▸ hu) fun he => he ▸ hd, fun hq => ⟨hq _ (.inl rfl), hq _ (.inr rfl)⟩⟩

/-! The span of a line end (R16). -/

theorem spanOfEnd_spec (ht : s.topologyHolds) {st : StationId} (hn : 2 ≤ s.n) (hend : st.val = 0 ∨ st.val + 1 = s.n) :
    ∃ j l, s.spanOfEnd st = some j ∧ (s.span j).line = some l ∧ (st = l.upstream ∨ st = j.downStation) ∧
      ∀ i m, (s.span i).line = some m → st = m.upstream ∨ st = i.downStation → i = j := by
  have hdown : ∀ i : SpanId, i.downStation.val ≠ 0 := fun i => by cases i <;> decide
  by_cases h0 : st.val = 0
  · obtain rfl : st = 0 := Fin.ext h0
    obtain ⟨j, l, hl, hu, -⟩ := exists_covering ht (k := .one) hn
    have hup : l.upstream = 0 := Fin.ext (Nat.lt_one_iff.mp hu)
    refine ⟨j, l, ?_, hl, .inl hup.symm, fun i m hm hi => ?_⟩
    · rw [State.spanOfEnd, if_pos rfl, ← hup, spanFedBy_eq ht hl]
    · obtain hi | hi := hi
      · exact span_unique_of_upstream ht hm hl (by rw [← hi, hup])
      · exact absurd (congrArg Fin.val hi.symm) (hdown i)
  · have hlast : st.val + 1 = s.n := hend.resolve_left h0
    obtain ⟨j, hj, hjn⟩ := exists_endingAt h0
    have hend' : s.isSpanEnd j = true := by simp [State.isSpanEnd, hjn, hlast]
    refine ⟨j, _, ?_, line_of_isSpanEnd ht hend', .inr (endingAt_eq_some_iff.mp hj), fun i m hm hi => ?_⟩
    · rw [State.spanOfEnd, if_neg fun h => h0 (congrArg Fin.val h), hj]
    · obtain ⟨hlt, hin⟩ := line_bounds ht hm
      obtain rfl | hi := hi
      · omega
      · refine SegId.eq_of_num_eq ?_
        rw [← downStation_val i, ← hi, hjn]

/-! Suspending and resuming (R17, R18). -/

variable {j : SpanId} {l : SpanLine}

theorem suspendSpan_of_not_opened (h : (s.span j).state ≠ .opened) : s.suspendSpan j = s := if_neg h

/-- The record that a suspension leaves (R17). -/
def Span.suspended (sp : Span) : Span := { sp with state := .suspended, verdict := if sp.latch then .leak else .blind }

theorem suspended_eq (sp : Span) : Span.derive { sp with state := .suspended } = sp.suspended :=
  derive_of_blind (.inl (by simp))

theorem suspendSpan_span (h : (s.span j).state = .opened) (i : SpanId) :
    (s.suspendSpan j).span i = if i = j then (s.span j).suspended else s.span i := by
  rw [(suspendSpan_noticesOnly s j h).span_eq, suspended_eq]
  by_cases hi : i = j
  · subst hi
    rw [setSpan_span_same, if_pos rfl]
  · rw [setSpan_span_ne _ _ _ hi, if_neg hi]

theorem raisedAs_suspendSpan (h : (s.span j).state = .opened) (hl : (s.span j).line = some l) :
    RaisedAs s (s.suspendSpan j) fun q => spanNotices j l .suspended .suspended q ++
      (s.suspendSpan j).verdictNotices j l (s.span j).verdict q := by
  have hspan : (s.setSpan j (s.span j).suspended).span j = (s.span j).suspended := setSpan_span_same _ _ _
  have hr := (raisedAs_raiseSpan_announceVerdict (s := s.setSpan j (s.span j).suspended) (by rw [hspan]; exact hl)
    .suspended (s.span j).verdict).after (s := s) rfl rfl
  rw [hspan] at hr
  have he : s.suspendSpan j = ((s.setSpan j (s.span j).suspended).raiseSpan j .suspended).announceVerdict j
      (s.span j).verdict := by rw [State.suspendSpan, if_pos h, suspended_eq]
  rw [verdictNotices_congr (t := s.suspendSpan j) (s := s.setSpan j (s.span j).suspended)
    (by rw [suspendSpan_span h, if_pos rfl, hspan]), he]
  exact hr

/-- The record that a resumption leaves (R18). -/
theorem resumed_eq (sp : Span) (now : LineTime) :
    (Span.epoch { sp with state := .opened } now).derive = sp.restarted now .opened := rfl

theorem resumeSpan_of_not (hl : (s.span j).line = some l)
    (h : ¬ ((s.span j).state = .suspended ∧ s.bothEndsIn j l = true)) : s.resumeSpan j = s := by
  simp only [State.resumeSpan, hl, if_neg h]

theorem resumeSpan_span (hl : (s.span j).line = some l) (h : (s.span j).state = .suspended) (hb : s.bothEndsIn j l = true)
    (i : SpanId) : (s.resumeSpan j).span i = if i = j then (s.span j).restarted s.lineTime .opened else s.span i := by
  rw [(resumeSpan_noticesOnly s j l hl h hb).span_eq, resumed_eq]
  by_cases hi : i = j
  · subst hi
    rw [setSpan_span_same, if_pos rfl]
  · rw [setSpan_span_ne _ _ _ hi, if_neg hi]

theorem raisedAs_resumeSpan (hl : (s.span j).line = some l) (h : (s.span j).state = .suspended)
    (hb : s.bothEndsIn j l = true) : RaisedAs s (s.resumeSpan j) fun q => spanNotices j l .resumed .opened q ++
      (s.resumeSpan j).verdictNotices j l (s.span j).verdict q := by
  have hspan : (s.setSpan j ((s.span j).restarted s.lineTime .opened)).span j = (s.span j).restarted s.lineTime .opened :=
    setSpan_span_same _ _ _
  have hrec := restarted_restarts (s.span j) s.lineTime .opened
  have hr := (raisedAs_raiseSpan_announceVerdict (s := s.setSpan j ((s.span j).restarted s.lineTime .opened))
    (by rw [hspan, hrec.line]; exact hl) .resumed (s.span j).verdict).after (s := s) rfl rfl
  rw [hspan, hrec.state_eq] at hr
  have he : s.resumeSpan j = ((s.setSpan j ((s.span j).restarted s.lineTime .opened)).raiseSpan j .resumed).announceVerdict j
      (s.span j).verdict := by
    rw [State.resumeSpan, hl]
    exact if_pos ⟨h, hb⟩
  rw [verdictNotices_congr (t := s.resumeSpan j) (s := s.setSpan j ((s.span j).restarted s.lineTime .opened))
    (by rw [resumeSpan_span hl h hb, if_pos rfl, hspan]), he]
  exact hr

/-- A suspension or a resumption moves no parcel and offers no sample (R17, R18). -/
theorem suspendSpan_store (s : State) (j : SpanId) : (s.suspendSpan j).free = s.free ∧ (s.suspendSpan j).queues = s.queues ∧
    (s.suspendSpan j).watches = s.watches := by
  by_cases h : (s.span j).state = .opened
  · rw [(suspendSpan_noticesOnly s j h).rest]
    exact ⟨rfl, rfl, rfl⟩
  · rw [suspendSpan_of_not_opened h]
    exact ⟨rfl, rfl, rfl⟩

theorem resumeSpan_store (hl : (s.span j).line = some l) : (s.resumeSpan j).free = s.free ∧
    (s.resumeSpan j).queues = s.queues ∧ (s.resumeSpan j).watches = s.watches := by
  by_cases h : (s.span j).state = .suspended ∧ s.bothEndsIn j l = true
  · rw [(resumeSpan_noticesOnly s j l hl h.1 h.2).rest]
    exact ⟨rfl, rfl, rfl⟩
  · rw [resumeSpan_of_not hl h]
    exact ⟨rfl, rfl, rfl⟩

/-! A line end that leaves or returns reaches the span that has it as an end, and no other (R17, R18). -/

section
variable {st : StationId} {v : ServiceState} {e : Option LineTime}

theorem serviceTold_spanOfEnd (x : StationId) : (s.serviceTold st v e).spanOfEnd x = s.spanOfEnd x := by
  rw [State.spanOfEnd, spanFedBy_congr (s := s) (t := s.serviceTold st v e) fun j => by rw [serviceTold_span], State.spanOfEnd]

theorem serviceTold_isLineEnd (x : StationId) : (s.serviceTold st v e).isLineEnd x = s.isLineEnd x := by
  rw [State.isLineEnd, (serviceTold_same s st v e).2.1]
  rfl

theorem changeService_of_leaving_end (hin : s.inService st = true) (hv : v ≠ .inService) (hend : s.isLineEnd st = true)
    (hj : s.spanOfEnd st = some j) : s.changeService st v e = (s.serviceTold st v e).suspendSpan j := by
  rw [changeService_eq, if_pos ⟨hin, hv⟩, State.stationLeft, serviceTold_isLineEnd, if_pos hend, serviceTold_spanOfEnd, hj]

theorem changeService_of_returning_end (hout : s.inService st = false) (hend : s.isLineEnd st = true)
    (hj : s.spanOfEnd st = some j) : s.changeService st .inService e = (s.serviceTold st .inService e).resumeSpan j := by
  rw [changeService_eq, if_neg (by simp [hout]), if_pos ⟨hout, rfl⟩, State.stationReturned, serviceTold_isLineEnd, if_pos hend,
    serviceTold_spanOfEnd, hj]

end

end

end Sys2Proof.Machine

open Sys2Proof Sys2Proof.Machine

/-- Settles O9: the line end reaches one span, which a suspension changes if it is OPEN. -/
theorem lineEndLeavingSuspends : Obligations.LineEndLeavingSuspends := by
  unfold Obligations.LineEndLeavingSuspends
  intro s c st hleave htop hn hend
  obtain ⟨s0, t, v, hv, hrun⟩ := leavesBy_run hleave
  have htop0 := hrun.before.topologyHolds htop
  have hn0 := hrun.before.n_eq
  obtain ⟨j, l, hj, hl0, hjend, honly⟩ := spanOfEnd_spec htop0 (hn0 ▸ hn) (hn0 ▸ hend)
  have hl : (s.span j).line = some l := hrun.before.span_eq j ▸ hl0
  have hin0 : s0.inService st = true := (hrun.before.inService_eq st).trans hleave.1
  have hchange := changeService_of_leaving_end (e := none) hin0 hv (isLineEnd_iff.mpr (hn0 ▸ hend)) hj
  have htold := hrun.toldOf
  obtain ⟨hfree, hqueues, hwatches⟩ := suspendSpan_store (s0.serviceTold st v none) j
  rw [← hchange] at hfree hqueues hwatches
  have hstore : s.sameStore t := ⟨(hrun.after.store_eq.1.trans hfree).trans htold.free,
    fun i => queue_congr ((hrun.after.store_eq.2.trans hqueues).trans htold.queues) i⟩
  have hsame : s.sameWatches t := sameWatches_of_eq ((hrun.after.watches_eq.trans hwatches).trans htold.watches)
  by_cases ho : (s.span j).state = .opened
  · have ho' : ((s0.serviceTold st v none).span j).state = .opened := by rw [htold.spans]; exact ho
    have hspan : ∀ i, t.span i = if i = j then (s.span j).suspended else s.span i := fun i => by
      rw [hrun.after.span_eq, hchange, suspendSpan_span ho', htold.spans, htold.spans]
    have hraised := raisedAs_suspendSpan (l := l) ho' (by rw [htold.spans]; exact hl)
    rw [← hchange, htold.spans] at hraised
    have hnotices := hrun.noticesAs hraised
    simp only [← List.append_assoc] at hnotices
    refine ⟨t, hrun.exec, hstore, hsame, fun i hi => ?absent, fun i m hm => ?present⟩
    case absent =>
      rw [hspan, if_neg]
      rintro rfl
      rw [hl] at hi
      cases hi
    case present =>
      by_cases hc : (st = m.upstream ∨ st = i.downStation) ∧ (s.span i).state = .opened
      · obtain rfl := honly i m ((hrun.before.span_eq i).symm ▸ hm) hc.1
        obtain rfl : m = l := Option.some.inj (hm.symm.trans hl)
        have hbeside : ∀ q, BesideSpan i (s.stationNotices t st q) := besideSpan_stationNotices
        rw [if_pos hc]
        exact ⟨(hspan i).trans (if_pos rfl), hnotices.endsTold_of_span_verdict hbeside,
          hnotices.verdictTold_of_span_verdict (hrun.after.span_eq i) hbeside,
          hnotices.gained_of_span_verdict (hrun.after.span_eq i) (fun _ => stationNotices_keys) (by simp)⟩
      · rw [if_neg hc, hspan, if_neg]
        rintro rfl
        obtain rfl : m = l := Option.some.inj (hm.symm.trans hl)
        exact hc ⟨hjend, ho⟩
  · have hspan : ∀ i, t.span i = s.span i := fun i => by
      rw [hrun.after.span_eq, hchange, suspendSpan_of_not_opened (by rw [htold.spans]; exact ho), htold.spans]
    refine ⟨t, hrun.exec, hstore, hsame, fun i _ => hspan i, fun i m hm => ?_⟩
    rw [if_neg]
    · exact hspan i
    · rintro ⟨hi, hopen⟩
      obtain rfl := honly i m ((hrun.before.span_eq i).symm ▸ hm) hi
      exact ho hopen

/-- Settles O10: the line end reaches one span, which a resumption changes if it is SUSPENDED with its other end IN_SERVICE. -/
theorem lineEndReturningResumes : Obligations.LineEndReturningResumes := by
  unfold Obligations.LineEndReturningResumes
  intro s c st hreturn htop hn hend
  obtain ⟨s0, t, e, hrun⟩ := returnsBy_run hreturn
  have htop0 := hrun.before.topologyHolds htop
  have hn0 := hrun.before.n_eq
  obtain ⟨j, l, hj, hl0, hjend, honly⟩ := spanOfEnd_spec htop0 (hn0 ▸ hn) (hn0 ▸ hend)
  have hl : (s.span j).line = some l := hrun.before.span_eq j ▸ hl0
  have hout : s0.inService st = false := (hrun.before.inService_eq st).trans hreturn.1
  have hchange := changeService_of_returning_end (e := e) hout (isLineEnd_iff.mpr (hn0 ▸ hend)) hj
  have htold := hrun.toldOf
  have hla : ((s0.serviceTold st .inService e).span j).line = some l := by rw [htold.spans]; exact hl
  obtain ⟨hfree, hqueues, hwatches⟩ := resumeSpan_store hla
  rw [← hchange] at hfree hqueues hwatches
  have hstore : s.sameStore t := ⟨(hrun.after.store_eq.1.trans hfree).trans htold.free,
    fun i => queue_congr ((hrun.after.store_eq.2.trans hqueues).trans htold.queues) i⟩
  have hsame : s.sameWatches t := sameWatches_of_eq ((hrun.after.watches_eq.trans hwatches).trans htold.watches)
  have hboth := bothEndsIn_of_returned (j := j) (l := l) htold
  by_cases ho : (s.span j).state = .suspended ∧ ∀ q, q = l.upstream ∨ q = j.downStation → q ≠ st → s.inService q = true
  · have ho' : ((s0.serviceTold st .inService e).span j).state = .suspended := by rw [htold.spans]; exact ho.1
    have hspan : ∀ i, t.span i = if i = j then (s.span j).restarted s.lineTime .opened else s.span i := fun i => by
      rw [hrun.after.span_eq, hchange, resumeSpan_span hla ho' (hboth.mpr ho.2), htold.spans, htold.spans, htold.lineTime]
    have hrec := restarted_restarts (s.span j) s.lineTime .opened
    have hraised := raisedAs_resumeSpan hla ho' (hboth.mpr ho.2)
    rw [← hchange, htold.spans] at hraised
    have hnotices := hrun.noticesAs hraised
    simp only [← List.append_assoc] at hnotices
    refine ⟨t, hrun.exec, hstore, hsame, fun i hi => ?absent, fun i m hm => ?present⟩
    case absent =>
      rw [hspan, if_neg]
      rintro rfl
      rw [hl] at hi
      cases hi
    case present =>
      by_cases hc : (st = m.upstream ∨ st = i.downStation) ∧ (s.span i).state = .suspended ∧
          ∀ q, q = m.upstream ∨ q = i.downStation → q ≠ st → s.inService q = true
      · obtain rfl := honly i m ((hrun.before.span_eq i).symm ▸ hm) hc.1
        obtain rfl : m = l := Option.some.inj (hm.symm.trans hl)
        have hbeside : ∀ q, BesideSpan i (s.stationNotices t st q) := besideSpan_stationNotices
        rw [← (hspan i).trans (if_pos rfl)] at hrec
        rw [if_pos hc]
        exact ⟨hrec.state_eq, hrec.epoch, hrec.verdict, hrec.line.trans hl, hrec.q, hrec.s, hrec.d, hrec.latch, hrec.hold,
          hnotices.endsTold_of_span_verdict hbeside, hnotices.verdictTold_of_span_verdict (hrun.after.span_eq i) hbeside,
          hnotices.gained_of_span_verdict (hrun.after.span_eq i) (fun _ => stationNotices_keys) (by simp)⟩
      · rw [if_neg hc, hspan, if_neg]
        rintro rfl
        obtain rfl : m = l := Option.some.inj (hm.symm.trans hl)
        exact hc ⟨hjend, ho⟩
  · have hspan : ∀ i, t.span i = s.span i := fun i => by
      rw [hrun.after.span_eq, hchange, resumeSpan_of_not hla, htold.spans]
      rw [htold.spans, hboth]
      exact ho
    refine ⟨t, hrun.exec, hstore, hsame, fun i _ => hspan i, fun i m hm => ?_⟩
    rw [if_neg]
    · exact hspan i
    · rintro ⟨hi, hsuspended⟩
      obtain rfl := honly i m ((hrun.before.span_eq i).symm ▸ hm) hi
      obtain rfl : m = l := Option.some.inj (hm.symm.trans hl)
      exact ho hsuspended

end

section
/-! The line of a span over a run of segments, and of two runs that meet at a station (R12, R129). -/

namespace Sys2Proof.Machine

section
variable {s t : State} {j k : SegId} {l lk lj : SpanLine} {up st : StationId}

/-- What R12 derives over the segments from an upstream end to span end j. -/
def State.lineOver (s : State) (up : StationId) (j : SpanId) : SpanLine where
  upstream := up
  first := segmentLeaving up
  last := j
  vSpan := s.sumOver (coveredSegments up j) (fun g => g.vSeg)
  thr := s.thresholdsOver (coveredSegments up j) j

theorem lineOf_eq_lineOver (h : s.lineOf j = some l) : l = s.lineOver l.upstream j := by
  obtain ⟨-, rfl⟩ := lineOf_some h
  rfl

theorem lineOver_congr (h : ∀ k, t.segment k = s.segment k) (up : StationId) (j : SpanId) :
    t.lineOver up j = s.lineOver up j := by
  simp only [State.lineOver, State.thresholdsOver, State.sumOver, h]

theorem drawn_congr (h : ∀ k, t.segment k = s.segment k) (hd : s.drawnFromSegments j l) : t.drawnFromSegments j l := by
  simpa only [State.drawnFromSegments, h] using hd

/-! Two runs that meet at a station. -/

theorem coveredSegments_append (hu : up.val < k.num) (hj : k.num < j.num) :
    coveredSegments up j = coveredSegments up k ++ coveredSegments k.downStation j := by
  cases k with
  | one =>
    obtain rfl : up = 0 := Fin.ext (Nat.lt_one_iff.mp hu)
    cases j with
    | one => exact absurd hj (by decide)
    | two => rfl
    | three => rfl
  | two =>
    cases j with
    | three =>
      fin_cases up
      · rfl
      · rfl
      · exact absurd hu (by decide)
      · exact absurd hu (by decide)
    | _ => exact absurd hj (by decide)
  | three => cases j <;> exact absurd hj (by decide)

theorem sumOver_append (s : State) (ks ls : List SegId) (f : Segment → Nat) :
    s.sumOver (ks ++ ls) f = s.sumOver ks f + s.sumOver ls f := by
  simp [State.sumOver]

theorem foldl_max_eq (xs : List Nat) (a : Nat) : xs.foldl max a = max a (xs.foldl max 0) := by
  induction xs generalizing a with
  | nil => simp
  | cons x xs ih => rw [List.foldl_cons, List.foldl_cons, ih, ih (max 0 x), ← max_assoc, Nat.zero_max]

/-- What R12 derives over two runs that meet: the fill volumes and the leak, drift and deposit thresholds add up, the larger
velocity holds, and the rest is that of the downstream run (R129). -/
theorem lineOver_append (s : State) (hu : up.val < k.num) (hj : k.num < j.num) :
    (s.lineOver up j).first = (s.lineOver up k).first ∧ (s.lineOver up j).last = j ∧
      (s.lineOver up j).vSpan = (s.lineOver up k).vSpan + (s.lineOver k.downStation j).vSpan ∧
      (s.lineOver up j).thr =
        ⟨(s.lineOver up k).thr.tLeak + (s.lineOver k.downStation j).thr.tLeak,
          (s.lineOver up k).thr.tDrift + (s.lineOver k.downStation j).thr.tDrift,
          (s.lineOver up k).thr.tDep + (s.lineOver k.downStation j).thr.tDep,
          max (s.lineOver up k).thr.vC (s.lineOver k.downStation j).thr.vC, (s.lineOver k.downStation j).thr.m,
          (s.lineOver k.downStation j).thr.nS, (s.lineOver k.downStation j).thr.nC⟩ := by
  refine ⟨rfl, rfl, ?_, ?_⟩
  · simp only [State.lineOver, coveredSegments_append hu hj, sumOver_append]
  · simp only [State.lineOver, State.thresholdsOver, coveredSegments_append hu hj, sumOver_append, List.map_append,
      List.foldl_append]
    rw [foldl_max_eq ((coveredSegments k.downStation j).map _)]

end

end Sys2Proof.Machine

end

section
/-! Merges: an interior station that leaves IN_SERVICE joins the spans that it ends (R12, R19, R20). -/

namespace Sys2Proof.Machine

section
variable {s a s0 t : State} {j k : SegId} {l lk lj : SpanLine} {st : StationId} {v : ServiceState} {e : Option LineTime}

theorem ToldOf.moved (h : ToldOf s a st v) (hv : (v == .inService) = !s.inService st) : ServiceMoved s a st where
  n := h.n
  segments := h.segments
  service := fun x hx => by rw [h.inService, if_neg hx]
  moved := by rw [h.inService, if_pos rfl, hv]

/-- The merged span's line: over the segments of both parts (R12, R20). -/
structure MergedLine (s a : State) (k j : SegId) (lk lj l : SpanLine) : Prop where
  gone : a.lineOf k = none
  line : a.lineOf j = some l
  upstream : l.upstream = lk.upstream
  first : l.first = lk.first
  last : l.last = j
  vSpan : l.vSpan = lk.vSpan + lj.vSpan
  thr : l.thr = ⟨lk.thr.tLeak + lj.thr.tLeak, lk.thr.tDrift + lj.thr.tDrift, lk.thr.tDep + lj.thr.tDep,
    max lk.thr.vC lj.thr.vC, lj.thr.m, lj.thr.nS, lj.thr.nC⟩
  drawn : s.drawnFromSegments j l
  others : ∀ i, i ≠ j → i ≠ k → a.lineOf i = (s.span i).line

theorem mergedLine_of_left (ht : s.topologyHolds) (hm : ServiceMoved s a st) (hin : s.inService st = true)
    (hn : st.val + 1 < s.n) (hk : k.downStation = st) (hlk : (s.span k).line = some lk) (hlj : (s.span j).line = some lj)
    (hu : lj.upstream = st) : ∃ l, MergedLine s a k j lk lj l := by
  obtain ⟨hgone, ⟨l, hl, hup⟩, hother⟩ := lineOf_of_left ht hm hin hn hk hlk hlj hu
  have hbk := (line_bounds ht hlk).1
  have hbj := (line_bounds ht hlj).1
  rw [hu, ← hk, downStation_val] at hbj
  have ek := lineOf_eq_lineOver ((ht.2 k).symm.trans hlk)
  have ej := lineOf_eq_lineOver ((ht.2 j).symm.trans hlj)
  have el := lineOf_eq_lineOver hl
  rw [hu, ← hk] at ej
  rw [hup, lineOver_congr hm.segments] at el
  obtain ⟨hfirst, hlast, hv, hthr⟩ := lineOver_append s hbk hbj
  rw [← el, ← ek, ← ej] at hv hthr
  rw [← el, ← ek] at hfirst
  rw [← el] at hlast
  exact ⟨l, hgone, hl, hup, hfirst, hlast, hv, hthr, drawn_congr (fun k => (hm.segments k).symm) (lineOf_drawn hl),
    fun i hij hik => by rw [hother i hij hik, ht.2]⟩

/-- An interior station's leaving merges the spans that it ends (R19, R20). -/
theorem changeService_of_leaving_interior (ht : s.topologyHolds) (hin : s.inService st = true) (hv : v ≠ .inService)
    (h0 : 0 < st.val) (hn : st.val + 1 < s.n) (hk : k.downStation = st) (hlj : (s.span j).line = some lj)
    (hu : lj.upstream = st) : s.changeService st v e =
      if (s.span k).state = .closed ∨ (s.span j).state = .closed then (s.serviceTold st v e).mergeClosed k j
      else (s.serviceTold st v e).mergeOpen k j := by
  have hend : ¬ s.isLineEnd st = true := by
    rw [isLineEnd_iff]
    omega
  have hfed : (s.serviceTold st v e).spanFedBy st = some j := by
    rw [spanFedBy_congr (s := s) (t := s.serviceTold st v e) fun j => by rw [serviceTold_span], ← hu, spanFedBy_eq ht hlj]
  rw [changeService_eq, if_pos ⟨hin, hv⟩, State.stationLeft, serviceTold_isLineEnd, if_neg hend, State.mergeAt,
    endingAt_eq_some_iff.mpr hk.symm, hfed]
  simp only [serviceTold_span]

/-! The notices of a merge. -/

/-- Re-deriving and restarting spans raises nothing. -/
theorem rederiveAll_silent (s : State) : s.rederiveAll.ports = s.ports ∧ s.rederiveAll.lineTime = s.lineTime := ⟨rfl, rfl⟩

theorem restartSpan_silent (s : State) (j : SpanId) :
    (s.restartSpan j).ports = s.ports ∧ (s.restartSpan j).lineTime = s.lineTime := ⟨rfl, rfl⟩

/-- The state that a merge of two parts neither CLOSED leaves before its notices (R20). -/
def State.mergedOpen (s : State) (k j : SpanId) : State :=
  (((s.divert k j).setSpan k Span.blank).setSpan j ((s.span j).mergedWith (s.span k) s.lineTime)).rederiveAll.restartSpan j

theorem mergeOpen_eq (s : State) (k j : SpanId) :
    s.mergeOpen k j = ((s.mergedOpen k j).raiseSpan j .merged).announceVerdict j (s.span j).verdict := rfl

theorem mergedOpen_silent (s : State) (k j : SpanId) :
    (s.mergedOpen k j).ports = s.ports ∧ (s.mergedOpen k j).lineTime = s.lineTime := by
  rw [State.mergedOpen, (restartSpan_silent _ j).1, (restartSpan_silent _ j).2, (rederiveAll_silent _).1,
    (rederiveAll_silent _).2]
  exact ⟨rfl, rfl⟩

theorem raisedAs_mergeOpen (hl : s.lineOf j = some l) : RaisedAs s (s.mergeOpen k j) fun q =>
    spanNotices j l .merged ((s.mergeOpen k j).span j).state q ++
      (s.mergeOpen k j).verdictNotices j l (s.span j).verdict q := by
  have hspan : (s.mergeOpen k j).span j = (s.mergedOpen k j).span j := by
    rw [mergeOpen_eq]
    exact ((noticesOnly_raiseSpan _ j .merged).trans (noticesOnly_announceVerdict _ j (s.span j).verdict)).span_eq j
  have hline : ((s.mergedOpen k j).span j).line = some l := by
    rw [← hspan, mergeOpen_span, if_pos rfl, (restarted_restarts _ _ _).line, hl]
  obtain ⟨hports, htime⟩ := mergedOpen_silent s k j
  rw [hspan, verdictNotices_congr hspan, mergeOpen_eq]
  exact (raisedAs_raiseSpan_announceVerdict hline .merged (s.span j).verdict).after hports htime

/-- The state that a merge with a CLOSED part leaves before its notices (R19). -/
def State.mergedClosed (s : State) (k j : SpanId) : State :=
  let s1 := if (s.span k).state = .closed then s else s.release k
  let s2 := if (s.span j).state = .closed then s1 else s1.release j
  ((s2.setSpan k Span.blank).setSpan j (s.span j).closedOf).rederiveAll

theorem mergeClosed_eq (s : State) (k j : SpanId) :
    s.mergeClosed k j = ((s.mergedClosed k j).announceVerdict j (s.span j).verdict).raiseSpan j .merged := rfl

theorem mergedClosed_silent (s : State) (k j : SpanId) :
    (s.mergedClosed k j).ports = s.ports ∧ (s.mergedClosed k j).lineTime = s.lineTime := by
  have hrelease : ∀ (u : State) (i : SpanId) (c : Prop) [Decidable c],
      (if c then u else u.release i).ports = u.ports ∧ (if c then u else u.release i).lineTime = u.lineTime := fun u i c _ => by
    split <;> exact ⟨rfl, rfl⟩
  have hset : ∀ (u : State) (x y : Span), ((u.setSpan k x).setSpan j y).ports = u.ports ∧
      ((u.setSpan k x).setSpan j y).lineTime = u.lineTime := fun _ _ _ => ⟨rfl, rfl⟩
  rw [State.mergedClosed, (rederiveAll_silent _).1, (rederiveAll_silent _).2, (hset _ _ _).1, (hset _ _ _).2, (hrelease _ _ _).1,
    (hrelease _ _ _).2, (hrelease _ _ _).1, (hrelease _ _ _).2]
  exact ⟨rfl, rfl⟩

theorem raisedAs_mergeClosed (hl : s.lineOf j = some l) : RaisedAs s (s.mergeClosed k j) fun q =>
    (s.mergeClosed k j).verdictNotices j l (s.span j).verdict q ++ spanNotices j l .merged .closed q := by
  have hspan : (s.mergeClosed k j).span j = (s.mergedClosed k j).span j := by
    rw [mergeClosed_eq]
    exact ((noticesOnly_announceVerdict _ j (s.span j).verdict).trans (noticesOnly_raiseSpan _ j .merged)).span_eq j
  have hrec : (s.mergedClosed k j).span j = { Span.blank with line := some l } := by
    rw [← hspan, mergeClosed_span, if_pos rfl, hl]
    rfl
  obtain ⟨hports, htime⟩ := mergedClosed_silent s k j
  rw [verdictNotices_congr hspan, mergeClosed_eq]
  have hr := raisedAs_announceVerdict_raiseSpan (s := s.mergedClosed k j) (by rw [hrec]) .merged (s.span j).verdict
  rw [show ((s.mergedClosed k j).span j).state = .closed by rw [hrec]; rfl] at hr
  exact hr.after hports htime

end

end Sys2Proof.Machine

end

section
/-! The merge of two spans as the statements write it (R19, R20). -/

namespace Sys2Proof.Machine

section
variable {s a s0 t : State} {j k : SegId} {l lk lj : SpanLine} {st : StationId} {v : ServiceState} {e : Option LineTime}
  {c : Instr}

/-- The later hold of two is the one there is, or the one farther ahead (R20). -/
theorem laterHold_cases (now : LineTime) (x y : Option LineTime) : (x = none → laterHold now x y = y) ∧
    (y = none → laterHold now x y = x) ∧
    ∀ a b, x = some a → y = some b →
      laterHold now x y = some (if (a - now).toNat < (b - now).toNat then b else a) := by
  refine ⟨fun h => by rw [h]; rfl, fun h => by rw [h]; cases x <;> rfl, fun a b ha hb => ?_⟩
  rw [ha, hb, laterHold]
  split <;> rfl

/-- The record of a merge of two parts neither CLOSED (R20). -/
theorem mergeOpen_record (hl : s.lineOf j = some l) :
    Restarted { (s.span j).mergedWith (s.span k) s.lineTime with line := some l } ((s.mergeOpen k j).span j) s.lineTime
      (s.stateOn j (some l)) := by
  rw [mergeOpen_span, if_pos rfl, hl]
  exact restarted_restarts _ _ _

/-- The set-up of a merge: what the change finds, and the line that it forms. -/
theorem merge_setting (hrun : ServiceRun s s0 t c st v e) (hin : s.inService st = true) (hv : v ≠ .inService)
    (ht : s.topologyHolds) (h0 : 0 < st.val) (hn : st.val + 1 < s.n) (hk : k.downStation = st)
    (hlk : (s.span k).line = some lk) (hlj : (s.span j).line = some lj) (hu : lj.upstream = st) :
    k ≠ j ∧ (∃ l, MergedLine s (s0.serviceTold st v e) k j lk lj l) ∧
      s0.changeService st v e = if (s.span k).state = .closed ∨ (s.span j).state = .closed then
        (s0.serviceTold st v e).mergeClosed k j else (s0.serviceTold st v e).mergeOpen k j := by
  have hmoved := hrun.toldOf.moved (by rw [hin]; simpa using hv)
  have hne : k ≠ j := by
    rintro rfl
    have := (line_bounds ht hlj).1
    rw [hu, ← hk, downStation_val] at this
    exact lt_irrefl _ this
  refine ⟨hne, mergedLine_of_left ht hmoved hin hn hk hlk hlj hu, ?_⟩
  have h := changeService_of_leaving_interior (e := e) (k := k) (lj := lj) (hrun.before.topologyHolds ht)
    ((hrun.before.inService_eq st).trans hin) hv h0 (by rw [hrun.before.n_eq]; exact hn) hk
    ((congrArg Span.line (hrun.before.span_eq j)).trans hlj) hu
  rwa [hrun.before.span_eq, hrun.before.span_eq] at h

theorem stateOn_of_told (h : ToldOf s a st v) (hup : l.upstream ≠ st) (hdown : j.downStation ≠ st) :
    a.stateOn j (some l) = if s.inService l.upstream = true ∧ s.inService j.downStation = true then .opened else .suspended := by
  have hboth : a.bothEndsIn j l = true ↔ s.inService l.upstream = true ∧ s.inService j.downStation = true := by
    rw [bothEndsIn_iff, h.inService, h.inService, if_neg hup, if_neg hdown]
  rw [State.stateOn]
  exact if_congr hboth rfl rfl

/-- A span that the change does not reach keeps its record: what R12 derives for it is what it holds. -/
theorem span_of_kept {i : SpanId} (h : ToldOf s a st v) (hl : a.lineOf i = (s.span i).line) :
    ({ a.span i with line := a.lineOf i } : Span) = s.span i := by
  rw [hl, h.spans]

end

end Sys2Proof.Machine

open Sys2Proof Sys2Proof.Machine

/-- Settles O11: the merge finds the station recorded and told; its record is the downstream one with an epoch started. -/
theorem mergeOfHeldParts : Obligations.MergeOfHeldParts := by
  unfold Obligations.MergeOfHeldParts
  intro s c st k j lk lj hleave htop h0 hn hk hlk hlj hu hck hcj
  obtain ⟨s0, t, v, hv, hrun⟩ := leavesBy_run hleave
  have htold := hrun.toldOf
  obtain ⟨hne, ⟨l, hline⟩, hchange⟩ := merge_setting hrun hleave.1 hv htop h0 hn hk hlk hlj hu
  rw [if_neg (not_or.mpr ⟨hck, hcj⟩)] at hchange
  obtain ⟨hqj, hqk, hqother, hfree, hwatches⟩ := mergeOpen_store (s := s0.serviceTold st v none) hne
  have hrecord := mergeOpen_record (k := k) hline.line
  have hspan := mergeOpen_span (s := s0.serviceTold st v none) k j
  have hraised := raisedAs_mergeOpen (k := k) hline.line
  rw [← hchange] at hqj hqk hqother hfree hwatches hrecord hraised
  rw [htold.spans] at hraised
  have hnotices := hrun.noticesAs hraised
  simp only [← List.append_assoc] at hnotices
  rw [htold.spans, htold.spans, htold.lineTime] at hrecord
  rw [← hrun.after.span_eq] at hrecord
  obtain ⟨hhold1, hhold2, hhold3⟩ := laterHold_cases s.lineTime (s.span j).hold (s.span k).hold
  have hbeside : ∀ q, BesideSpan j (s.stationNotices t st q) := besideSpan_stationNotices
  have hstate : (t.span j).state = ((s0.changeService st v none).span j).state := by rw [hrun.after.span_eq]
  have hends : (s0.serviceTold st v none).stateOn j (some l) =
      if s.inService lk.upstream = true ∧ s.inService j.downStation = true then .opened else .suspended := by
    have hbk := (line_bounds htop hlk).1
    have hbj := (line_bounds htop hlj).1
    rw [hu] at hbj
    rw [← downStation_val k, hk] at hbk
    rw [← hline.upstream]
    refine stateOn_of_told htold (fun h => ?_) fun h => ?_
    · rw [← h, hline.upstream] at hbk
      exact lt_irrefl _ hbk
    · rw [← downStation_val j, h] at hbj
      exact lt_irrefl _ hbj
  rw [hends] at hrecord
  rw [← hstate] at hnotices
  exact ⟨t, l, hrun.exec, (hrun.after.queue_eq j).trans (hqj.trans (by rw [queue_congr htold.queues, queue_congr htold.queues])),
    (hrun.after.queue_eq k).trans hqk, hrun.after.store_eq.1.trans (hfree.trans htold.free),
    (hrun.after.span_eq k).trans (by rw [hchange, hspan, if_neg hne, if_pos rfl, hline.gone]; rfl),
    hrecord.line, hline.upstream, hline.first, hline.last, hline.vSpan,
    drawn_congr (fun i => by rw [hrun.after.segment_eq, changeService_sameSegments, hrun.before.segment_eq]) hline.drawn, hline.thr,
    hrecord.q, hrecord.s, hrecord.d, hrecord.latch, fun h => hrecord.hold.trans (hhold1 h), fun h => hrecord.hold.trans (hhold2 h),
    fun x y hx hy => hrecord.hold.trans (hhold3 x y hx hy), hrecord.epoch, hrecord.verdict, hrecord.state_eq,
    hnotices.endsTold_of_span_verdict hbeside, hnotices.verdictTold_of_span_verdict (hrun.after.span_eq j) hbeside,
    hnotices.gained_of_span_verdict (hrun.after.span_eq j) (fun _ => stationNotices_keys) (by simp),
    sameWatches_of_eq (hrun.after.watches_eq.trans (hwatches.trans htold.watches)), fun i hij hik =>
    ⟨(hrun.after.span_eq i).trans (by rw [hchange, hspan, if_neg hij, if_neg hik, span_of_kept htold (hline.others i hij hik)]),
      (hrun.after.queue_eq i).trans ((hqother i hij hik).trans (queue_congr htold.queues i))⟩⟩

/-- Settles O12: the merge releases what the parts hold, and tells of the verdict before the span. -/
theorem mergeWithClosedPart : Obligations.MergeWithClosedPart := by
  unfold Obligations.MergeWithClosedPart
  intro s c st k j lk lj hleave htop hempty h0 hn hk hlk hlj hu hclosed
  obtain ⟨s0, t, v, hv, hrun⟩ := leavesBy_run hleave
  have htold := hrun.toldOf
  obtain ⟨hne, ⟨l, hline⟩, hchange⟩ := merge_setting hrun hleave.1 hv htop h0 hn hk hlk hlj hu
  rw [if_pos hclosed] at hchange
  have hnil : ∀ i, ((s0.serviceTold st v none).span i).state = .closed → (s0.serviceTold st v none).queue i = [] := fun i hi => by
    rw [queue_congr htold.queues]
    exact hempty i (htold.spans i ▸ hi)
  obtain ⟨hqj, hqk, hfree, hwatches, hqother⟩ := mergeClosed_store (s := s0.serviceTold st v none) hne (hnil k) (hnil j)
  have hspan := mergeClosed_span (s := s0.serviceTold st v none) k j
  have hraised := raisedAs_mergeClosed (k := k) hline.line
  rw [← hchange] at hqj hqk hqother hfree hwatches hraised
  rw [htold.spans] at hraised
  rw [htold.free, queue_congr htold.queues, queue_congr htold.queues] at hfree
  have hnotices := hrun.noticesAs hraised
  simp only [← List.append_assoc] at hnotices
  have hbeside : ∀ q, BesideSpan j (s.stationNotices t st q) := besideSpan_stationNotices
  exact ⟨t, l, hrun.exec, (hrun.after.queue_eq j).trans hqj, (hrun.after.queue_eq k).trans hqk, hrun.after.store_eq.1.trans hfree,
    (hrun.after.span_eq k).trans (by rw [hchange, hspan, if_neg hne, if_pos rfl, hline.gone]; rfl),
    (hrun.after.span_eq j).trans (by rw [hchange, hspan, if_pos rfl, hline.line]; rfl),
    hline.upstream, hline.first, hline.last, hline.vSpan,
    drawn_congr (fun i => by rw [hrun.after.segment_eq, changeService_sameSegments, hrun.before.segment_eq]) hline.drawn,
    hnotices.endsTold_of_verdict_span hbeside, hnotices.verdictTold_of_verdict_span (hrun.after.span_eq j) hbeside,
    hnotices.gained_of_verdict_span (hrun.after.span_eq j) (fun _ => stationNotices_keys) (by simp),
    sameWatches_of_eq (hrun.after.watches_eq.trans (hwatches.trans htold.watches)), fun i hij hik =>
    ⟨(hrun.after.span_eq i).trans (by rw [hchange, hspan, if_neg hij, if_neg hik, span_of_kept htold (hline.others i hij hik)]),
      (hrun.after.queue_eq i).trans ((hqother i hij hik).trans (queue_congr htold.queues i))⟩⟩

end

section
/-! Splits: an interior station that returns to IN_SERVICE divides the span that it lies in (R12, R21, R22). -/

namespace Sys2Proof.Machine

section
variable {s a s0 t : State} {j k : SegId} {l lk lj : SpanLine} {st : StationId} {v : ServiceState} {e : Option LineTime}
  {c : Instr}

/-- The two lines of a split: over the segments up to the station, and over those from it (R12, R21, R22). -/
structure SplitLines (s a : State) (st : StationId) (k j : SegId) (l lk lj : SpanLine) : Prop where
  up : a.lineOf k = some lk
  down : a.lineOf j = some lj
  upUpstream : lk.upstream = l.upstream
  upFirst : lk.first = l.first
  upLast : lk.last = k
  downUpstream : lj.upstream = st
  downLast : lj.last = j
  vSpan : lk.vSpan + lj.vSpan = l.vSpan
  upDrawn : s.drawnFromSegments k lk
  downDrawn : s.drawnFromSegments j lj
  others : ∀ i, i ≠ j → i ≠ k → a.lineOf i = (s.span i).line

theorem splitLines_of_returned (ht : s.topologyHolds) (hm : ServiceMoved s a st) (hout : s.inService st = false)
    (hn : st.val + 1 < s.n) (hk : k.downStation = st) (hl : (s.span j).line = some l) (hu : l.upstream.val < k.num)
    (hkj : k.num < j.num) : ∃ lk lj, SplitLines s a st k j l lk lj := by
  obtain ⟨⟨lk, hlk, huk⟩, ⟨lj, hlj, huj⟩, hother⟩ := lineOf_of_returned ht hm hout hn hk hl hu hkj
  have el := lineOf_eq_lineOver ((ht.2 j).symm.trans hl)
  have ek := lineOf_eq_lineOver hlk
  have ej := lineOf_eq_lineOver hlj
  rw [huk, lineOver_congr hm.segments] at ek
  rw [huj, ← hk, lineOver_congr hm.segments] at ej
  obtain ⟨hfirst, -, hv, -⟩ := lineOver_append s hu hkj
  rw [← el, ← ek] at hfirst
  rw [← el, ← ek, ← ej] at hv
  have hdrawn : ∀ {i m}, a.lineOf i = some m → s.drawnFromSegments i m := fun h =>
    drawn_congr (fun k => (hm.segments k).symm) (lineOf_drawn h)
  exact ⟨lk, lj, hlk, hlj, huk, hfirst.symm, by rw [ek]; rfl, huj, by rw [ej]; rfl, hv.symm, hdrawn hlk, hdrawn hlj,
    fun i hij hik => by rw [hother i hij hik, ht.2]⟩

/-- An interior station's return splits the span it lies in (R21, R22). -/
theorem changeService_of_returning_interior (ht : s.topologyHolds) (hout : s.inService st = false) (h0 : 0 < st.val)
    (hn : st.val + 1 < s.n) (hk : k.downStation = st) (hl : (s.span j).line = some l) (hu : l.upstream.val < k.num)
    (hkj : k.num ≤ j.num) : s.changeService st .inService e =
      if (s.span j).state = .closed then (s.serviceTold st .inService e).splitClosed k j
      else (s.serviceTold st .inService e).splitOpen k j := by
  have hend : ¬ s.isLineEnd st = true := by
    rw [isLineEnd_iff]
    omega
  have hcont : (s.serviceTold st .inService e).spanContaining k = some j := by
    rw [spanContaining_congr (s := s) (t := s.serviceTold st .inService e) fun j => by rw [serviceTold_span],
      spanContaining_eq ht hl hu hkj]
  rw [changeService_eq, if_neg (by simp [hout]), if_pos ⟨hout, rfl⟩, State.stationReturned, serviceTold_isLineEnd, if_neg hend,
    State.splitAt, endingAt_eq_some_iff.mpr hk.symm]
  simp only [hcont, serviceTold_span]

/-- The set-up of a split: what the change finds, and the lines that it forms. -/
theorem split_setting (hrun : ServiceRun s s0 t c st .inService e) (hout : s.inService st = false) (ht : s.topologyHolds)
    (h0 : 0 < st.val) (hn : st.val + 1 < s.n) (hk : k.downStation = st) (hl : (s.span j).line = some l)
    (hu : l.upstream.val < k.num) (hkj : k.num ≤ j.num) :
    k ≠ j ∧ (∃ lk lj, SplitLines s (s0.serviceTold st .inService e) st k j l lk lj) ∧
      s0.changeService st .inService e = if (s.span j).state = .closed then
        (s0.serviceTold st .inService e).splitClosed k j else (s0.serviceTold st .inService e).splitOpen k j := by
  have hmoved := hrun.toldOf.moved (by rw [hout]; rfl)
  have hne : k ≠ j := by
    rintro rfl
    have hend := (line_of_topology ht hl).1
    rw [isSpanEnd_interior hk hn, hout] at hend
    cases hend
  refine ⟨hne, splitLines_of_returned ht hmoved hout hn hk hl hu (lt_of_le_of_ne hkj fun h => hne (SegId.eq_of_num_eq h)), ?_⟩
  have h := changeService_of_returning_interior (e := e) (k := k) (l := l) (hrun.before.topologyHolds ht)
    ((hrun.before.inService_eq st).trans hout) h0 (by rw [hrun.before.n_eq]; exact hn) hk
    ((congrArg Span.line (hrun.before.span_eq j)).trans hl) hu hkj
  rwa [hrun.before.span_eq] at h

/-! The notices of a split of a CLOSED span (R21). -/

theorem raisedAs_splitClosed (hne : k ≠ j) (hlk : s.lineOf k = some lk) (hlj : s.lineOf j = some lj)
    (hc : (s.span j).state = .closed) : RaisedAs s (s.splitClosed k j) fun q =>
      spanNotices k lk .split .closed q ++ spanNotices j lj .split .closed q := by
  obtain ⟨hports, htime⟩ := rederiveAll_silent (s.setSpan k Span.blank)
  have hspan := blanked_rederiveAll_span (s := s) k
  have he : s.splitClosed k j = (((s.setSpan k Span.blank).rederiveAll).raiseSpan k .split).raiseSpan j .split := rfl
  rw [he]
  generalize (s.setSpan k Span.blank).rederiveAll = b at hports htime hspan
  have hbk : b.span k = { Span.blank with line := some lk } := by rw [hspan, if_pos rfl, hlk]
  have hbj : b.span j = { s.span j with line := some lj } := by rw [hspan, if_neg hne.symm, hlj]
  have hsame := (noticesOnly_raiseSpan b k .split).span_eq j
  have h1 := raisedAs_raiseSpan (s := b) (j := k) (l := lk) (by rw [hbk]) .split
  have h2 := raisedAs_raiseSpan (s := b.raiseSpan k .split) (j := j) (l := lj) (by rw [hsame, hbj]) .split
  rw [show (b.span k).state = .closed by rw [hbk]; rfl] at h1
  rw [show ((b.raiseSpan k .split).span j).state = .closed by rw [hsame, hbj]; exact hc] at h2
  exact (h1.trans h2).after hports htime

/-! Notices of one event: others before them, the SPAN notices of two spans, and others behind. -/

theorem NoticesAs.endsTold_of_two {pre post : PortId → List (NoticeBody × Bool)} {event event' : SpanEvent}
    {state state' : SpanState} (hne : k ≠ j)
    (h : NoticesAs s t fun q => pre q ++ spanNotices k lk event state q ++ spanNotices j lj event' state' q ++ post q)
    (hk : ∀ q, BesideSpan k (pre q)) (hj : ∀ q, BesideSpan j (pre q))
    (hpost : ∀ q i, (post q).filter (fun x => x.1.key == .span i) = []) :
    s.endsTold t k lk (.span k event state) ∧ s.endsTold t j lj (.span j event' state') := by
  refine ⟨h.endsTold fun q hq => ?_, h.endsTold fun q hq => ?_⟩
  · rw [List.filter_append, List.filter_append, List.filter_append, (hk q).span, spanNotices_filter_self hq,
      spanNotices_filter_ne (by simpa using hne), hpost]
    rfl
  · rw [List.filter_append, List.filter_append, List.filter_append, (hj q).span, spanNotices_filter_self hq,
      spanNotices_filter_ne (by simpa using hne.symm), hpost]
    rfl

end

end Sys2Proof.Machine

open Sys2Proof Sys2Proof.Machine

/-- Settles O13: the new upstream record is formed blank, both are drawn from their segments, and nothing moves. -/
theorem splitOfClosedSpan : Obligations.SplitOfClosedSpan := by
  unfold Obligations.SplitOfClosedSpan
  intro s c st k j l hreturn htop h0 hn hk hl hu hkj hclosed
  obtain ⟨s0, t, e, hrun⟩ := returnsBy_run hreturn
  have htold := hrun.toldOf
  obtain ⟨hne, ⟨lk, lj, hlines⟩, hchange⟩ := split_setting hrun hreturn.1 htop h0 hn hk hl hu hkj
  rw [if_pos hclosed] at hchange
  obtain ⟨hfree, hqueues, hwatches⟩ := splitClosed_store (s := s0.serviceTold st .inService e) k j
  have hspan := splitClosed_span (s := s0.serviceTold st .inService e) k j
  have hraised := raisedAs_splitClosed hne hlines.up hlines.down (by rw [htold.spans]; exact hclosed)
  rw [← hchange] at hfree hqueues hwatches hspan hraised
  have hnotices := hrun.noticesAs hraised
  have hall : NoticesAs s t fun q => s.stationNotices t st q ++ spanNotices k lk .split .closed q ++
      spanNotices j lj .split .closed q ++ [] := by
    simp only [← List.append_assoc] at hnotices
    simpa only [List.append_nil] using hnotices
  have hsegments : ∀ i, t.segment i = s.segment i := fun i => by
    rw [hrun.after.segment_eq, changeService_sameSegments, hrun.before.segment_eq]
  obtain ⟨hendsk, hendsj⟩ := hall.endsTold_of_two hne (fun _ => besideSpan_stationNotices _) (fun _ => besideSpan_stationNotices _)
    fun _ _ => rfl
  refine ⟨t, lk, lj, hrun.exec, (hrun.after.span_eq k).trans (by rw [hspan, if_pos rfl, hlines.up]),
    (hrun.after.span_eq j).trans (by rw [hspan, if_neg hne.symm, hlines.down, htold.spans]),
    hlines.upUpstream, hlines.upFirst, hlines.upLast, hlines.downUpstream, hlines.downLast, hlines.vSpan,
    drawn_congr hsegments hlines.upDrawn, drawn_congr hsegments hlines.downDrawn, hendsk, hendsj, fun q => ?gained,
    ⟨hrun.after.store_eq.1.trans (hfree.trans htold.free),
      fun i => queue_congr (hrun.after.store_eq.2.trans (hqueues.trans htold.queues)) i⟩,
    sameWatches_of_eq (hrun.after.watches_eq.trans (hwatches.trans htold.watches)), fun i hij hik =>
      (hrun.after.span_eq i).trans (by rw [hspan, if_neg hik, span_of_kept htold (hlines.others i hij hik)])⟩
  case gained =>
    have hg := hall.gained (q := q) (keys_nodup (keys_append (keys_append (keys_append stationNotices_keys spanNotices_keys)
      spanNotices_keys) (List.Sublist.refl _)) (by simpa using hne))
    simpa only [List.append_nil] using hg

end

section
/-! The split of a span that is not CLOSED: the cut of its queue, the records of its halves and its notices (R22, R70 to
R72, R84). -/

namespace Sys2Proof.Machine

section
variable {s a s0 t : State} {j k : SegId} {l lk lj : SpanLine} {st : StationId} {v : ServiceState} {e : Option LineTime}
  {c : Instr}

/-! The cut. -/

/-- The cut keeps volume and solids, and fills the downstream half first (R70, R71). -/
theorem splitQueue_sums (hkj : k ≠ j) (r : Nat) :
    volumeIn ((s.splitQueue k j r).queue j) = min r (volumeIn ((s.cutFrom j r).queue j)) ∧
    volumeIn ((s.splitQueue k j r).queue j) + volumeIn ((s.splitQueue k j r).queue k) =
      volumeIn ((s.cutFrom j r).queue j) ∧
    solidsIn ((s.splitQueue k j r).queue j) + solidsIn ((s.splitQueue k j r).queue k) =
      solidsIn ((s.cutFrom j r).queue j) := by
  obtain ⟨-, ⟨stay, go, hw, hqj, hqk, -⟩ | ⟨stay, p, a, go, hw, hqj, hqk, -, -⟩⟩ := splitQueue_cases (s := s) hkj r
  · obtain ⟨hps, hle, hfull⟩ := cutWalk_none hw
    rw [hqj, hqk, hps, volumeIn_append, solidsIn_append]
    refine ⟨?_, rfl, rfl⟩
    by_cases hgo : go = []
    · rw [hgo, show volumeIn [] = 0 from rfl, Nat.add_zero, min_eq_right hle]
    · rw [hfull hgo, min_eq_left (Nat.le_add_right _ _)]
  · obtain ⟨hps, -, hap, hr⟩ := cutWalk_some hw
    have hle := cut_solids_le p hap.le
    have hdown : volumeIn (stay ++ [p.downPart a]) = r ∧
        solidsIn (stay ++ [p.downPart a]) = solidsIn stay + p.solids * a / p.volume := by
      rw [volumeIn_append, solidsIn_append]
      exact ⟨hr, rfl⟩
    have hup : volumeIn (p.upPart a s.allocate.1 :: go) = p.volume - a + volumeIn go ∧
        solidsIn (p.upPart a s.allocate.1 :: go) = p.solids - p.solids * a / p.volume + solidsIn go := ⟨rfl, rfl⟩
    rw [hqj, hqk, hps, hdown.1, hdown.2, hup.1, hup.2, volumeIn_append, solidsIn_append, volumeIn_cons, solidsIn_cons]
    omega

theorem cutFrom_congr (hf : a.free = s.free) (hq : a.queues = s.queues) (j : SpanId) (r : Nat) :
    (a.cutFrom j r).free = (s.cutFrom j r).free ∧ (a.cutFrom j r).queues = (s.cutFrom j r).queues := by
  obtain ⟨-, hfree, hqueues⟩ := allocate_congr hf hq
  unfold State.cutFrom
  rw [queue_congr hq]
  split
  · exact ⟨hf, hq⟩
  · exact ⟨hfree, hqueues⟩

theorem reclaimOffers_congr (hf : a.free = s.free) (hq : a.queues = s.queues) : a.reclaimOffers = s.reclaimOffers := by
  rw [State.reclaimOffers, State.reclaimOffers, hf, fullest_congr hq, queue_congr hq]

/-- The cut's queues, by the walk (R70, R71). -/
theorem splitQueue_walk (hkj : k ≠ j) (r : Nat) {stay go : List Parcel} {straddler : Option (Parcel × Nat)}
    (h : cutWalk r ((s.cutFrom j r).queue j) = (stay, straddler, go)) :
    (straddler = none → (s.splitQueue k j r).queue j = stay ∧ (s.splitQueue k j r).queue k = go) ∧
      ∀ p a, straddler = some (p, a) → (s.splitQueue k j r).queue j = stay ++ [p.downPart a] ∧
        (s.splitQueue k j r).queue k = p.upPart a s.allocate.1 :: go := by
  obtain ⟨-, ⟨stay', go', hw, hqj, hqk, -⟩ | ⟨stay', p', a', go', hw, hqj, hqk, -, -⟩⟩ := splitQueue_cases (s := s) hkj r <;>
    rw [h, Prod.mk.injEq, Prod.mk.injEq] at hw <;> obtain ⟨rfl, rfl, rfl⟩ := hw
  · exact ⟨fun _ => ⟨hqj, hqk⟩, fun _ _ hp => by cases hp⟩
  · exact ⟨fun hn => by (cases hn), fun p a hp => by cases hp; exact ⟨hqj, hqk⟩⟩

/-- The free list after the cut is the one that it cuts from, where no record was taken or the one taken is used (R70). -/
theorem splitQueue_free (hkj : k ≠ j) (r : Nat)
    (h : (cutWalk r (s.queue j)).2.1 = none ∨ (cutWalk r ((s.cutFrom j r).queue j)).2.1 ≠ none) :
    (s.splitQueue k j r).free = (s.cutFrom j r).free := by
  obtain ⟨-, ⟨stay, go, hw, -, -, ⟨-, hf⟩ | ⟨hs, -⟩⟩ | ⟨stay, p, a, go, -, -, -, -, hf⟩⟩ := splitQueue_cases (s := s) hkj r
  · exact hf
  · rw [hw] at h
    exact absurd rfl (h.resolve_left hs)
  · exact hf

/-! The notices of a split (R22, R126). -/

/-- The state that a split leaves before its notices: the queue cut and both halves restarted (R22). -/
def State.splitOpened (s : State) (k j : SpanId) : State :=
  let s1 := (s.setSpan k Span.blank).rederiveAll
  let s2 := s1.splitQueue k j (s1.span j).vSpan
  let s3 := (s2.setSpan k (s2.halfOf k (s.span j))).setSpan j (s2.halfOf j (s.span j))
  (s3.restartSpan k).restartSpan j

theorem splitOpen_eq (s : State) (k j : SpanId) : s.splitOpen k j =
    ((((s.splitOpened k j).raiseSpan k .split).raiseSpan j .split).announceVerdict k (s.span j).verdict).announceVerdict j
      (s.span j).verdict := rfl

/-- The cut raises WATCH notices alone, those of its allocation's reclaim (R158). -/
theorem watchRaised_splitOpened (s : State) (k j : SpanId) : ∃ ws, WatchRaised s (s.splitOpened k j) ws := by
  have hbefore : (s.setSpan k Span.blank).rederiveAll.ports = s.ports ∧
      (s.setSpan k Span.blank).rederiveAll.lineTime = s.lineTime := rederiveAll_silent _
  have hafter : ∀ (b : State) (x y : Span), (((b.setSpan k x).setSpan j y).restartSpan k |>.restartSpan j).ports = b.ports ∧
      (((b.setSpan k x).setSpan j y).restartSpan k |>.restartSpan j).lineTime = b.lineTime := fun b x y => by
    rw [(restartSpan_silent _ j).1, (restartSpan_silent _ j).2, (restartSpan_silent _ k).1, (restartSpan_silent _ k).2]
    exact ⟨rfl, rfl⟩
  rw [State.splitOpened]
  generalize (s.setSpan k Span.blank).rederiveAll = b at hbefore
  obtain ⟨ws, hws⟩ := watchRaised_splitQueue b k j (b.span j).vSpan
  obtain ⟨hports, htime⟩ := hafter (b.splitQueue k j (b.span j).vSpan)
    ((b.splitQueue k j (b.span j).vSpan).halfOf k (s.span j)) ((b.splitQueue k j (b.span j).vSpan).halfOf j (s.span j))
  exact ⟨_, ((WatchRaised.of_ports hbefore.1 hbefore.2).trans hws).trans (.of_ports hports htime)⟩

/-- The SPAN notices of two spans, then their VERDICT notices (R22, R126). -/
theorem raisedAs_two (hlk : (s.span k).line = some lk) (hlj : (s.span j).line = some lj) (event : SpanEvent) (before : Verdict) :
    RaisedAs s ((((s.raiseSpan k event).raiseSpan j event).announceVerdict k before).announceVerdict j before) fun q =>
      spanNotices k lk event (s.span k).state q ++ spanNotices j lj event (s.span j).state q ++
        (s.verdictNotices k lk before q ++ s.verdictNotices j lj before q) := by
  have n1 := noticesOnly_raiseSpan s k event
  have n2 := n1.trans (noticesOnly_raiseSpan (s.raiseSpan k event) j event)
  have n3 := n2.trans (noticesOnly_announceVerdict ((s.raiseSpan k event).raiseSpan j event) k before)
  have h1 := raisedAs_raiseSpan hlk event
  have h2 := raisedAs_raiseSpan (s := s.raiseSpan k event) (j := j) (by rw [n1.span_eq]; exact hlj) event
  have h3 := raisedAs_announceVerdict (s := (s.raiseSpan k event).raiseSpan j event) (j := k) (by rw [n2.span_eq]; exact hlk) before
  have h4 := raisedAs_announceVerdict (s := ((s.raiseSpan k event).raiseSpan j event).announceVerdict k before) (j := j)
    (by rw [n3.span_eq]; exact hlj) before
  rw [n1.span_eq] at h2
  rw [verdictNotices_congr (n2.span_eq k)] at h3
  rw [verdictNotices_congr (n3.span_eq j)] at h4
  exact (((h1.trans h2).trans h3).trans h4).congr fun q => List.append_assoc _ _ _

theorem splitOpened_span (s : State) (k j i : SpanId) : (s.splitOpen k j).span i = (s.splitOpened k j).span i := by
  rw [splitOpen_eq]
  exact ((((noticesOnly_raiseSpan _ k .split).trans (noticesOnly_raiseSpan _ j .split)).trans
    (noticesOnly_announceVerdict _ k (s.span j).verdict)).trans (noticesOnly_announceVerdict _ j (s.span j).verdict)).span_eq i

/-- A split raises the WATCH notices of its cut, then those of both halves (R22). -/
theorem raisedAs_splitOpen (hne : k ≠ j) (hlk : s.lineOf k = some lk) (hlj : s.lineOf j = some lj) :
    ∃ ws, (∃ u, WatchRaised s u ws) ∧ RaisedAs s (s.splitOpen k j) fun q => ws q ++
      (spanNotices k lk .split ((s.splitOpen k j).span k).state q ++
        spanNotices j lj .split ((s.splitOpen k j).span j).state q ++
        ((s.splitOpen k j).verdictNotices k lk (s.span j).verdict q ++
          (s.splitOpen k j).verdictNotices j lj (s.span j).verdict q)) := by
  obtain ⟨ws, hws⟩ := watchRaised_splitOpened s k j
  refine ⟨ws, ⟨_, hws⟩, ?_⟩
  have hspan := splitOpen_span (s := s) hne
  have hline : ∀ i, i = k ∨ i = j → ((s.splitOpen k j).span i).line = s.lineOf i := fun i hi => by
    rw [hspan, if_pos hi, (restarted_restarts _ _ _).line]
    rfl
  have hlk' := (hline k (.inl rfl)).trans hlk
  have hlj' := (hline j (.inr rfl)).trans hlj
  rw [verdictNotices_congr (splitOpened_span s k j k), verdictNotices_congr (splitOpened_span s k j j), splitOpened_span,
    splitOpened_span, splitOpen_eq]
  rw [splitOpened_span] at hlk' hlj'
  exact hws.raised.trans (raisedAs_two hlk' hlj' .split _)

end

end Sys2Proof.Machine

end

section
/-! The split of a span that is not CLOSED as the statement writes it (R22). -/

namespace Sys2Proof.Machine

section
variable {s a t : State} {j k : SegId} {l lk lj : SpanLine} {st : StationId} {v : ServiceState}

/-- Notices whose keys are beside WATCH stay where WATCH notices are set aside. -/
theorem filter_besideWatch_of_keys {xs : List (NoticeBody × Bool)} {ks : List NoticeKey}
    (h : (xs.map fun x => x.1.key).Sublist ks) (hk : ∀ k ∈ ks, k.besideWatch = true) :
    (xs.filter fun x => x.1.key.besideWatch) = xs :=
  List.filter_eq_self.mpr fun _ hx => hk _ (h.subset (List.mem_map_of_mem hx))

/-- The keys that a split raises beside WATCH: of the station, of both spans and of their verdicts. -/
theorem splitNotices_keys (q : PortId) (sk sj : SpanState) (bk bj : Verdict) :
    ((s.stationNotices t st q ++ spanNotices k lk .split sk q ++ spanNotices j lj .split sj q ++
      (a.verdictNotices k lk bk q ++ a.verdictNotices j lj bj q)).map fun x => x.1.key).Sublist
      ([NoticeKey.station st] ++ [NoticeKey.span k] ++ [NoticeKey.span j] ++ ([NoticeKey.verdict k] ++ [NoticeKey.verdict j])) :=
  keys_append (keys_append (keys_append stationNotices_keys spanNotices_keys) spanNotices_keys)
    (keys_append verdictNotices_keys verdictNotices_keys)

/-- What a split tells the ends of both halves and each port (R7, R22, R126). -/
theorem NoticesAs.split {ws : PortId → List (NoticeBody × Bool)} {sk sj : SpanState} {before : Verdict} (hne : k ≠ j)
    (h : NoticesAs s t fun q => s.stationNotices t st q ++ (ws q ++ (spanNotices k lk .split sk q ++
      spanNotices j lj .split sj q ++ (a.verdictNotices k lk before q ++ a.verdictNotices j lj before q))))
    (hws : ∃ u w, WatchRaised u w ws) (hk : t.span k = a.span k) (hj : t.span j = a.span j) :
    s.endsTold t k lk (.span k .split sk) ∧ s.endsTold t j lj (.span j .split sj) ∧ s.verdictTold t k lk before ∧
      s.verdictTold t j lj before ∧ ∀ q, s.gainedBesideWatch t q (s.stationNotices t st q ++ spanNotices k lk .split sk q ++
        spanNotices j lj .split sj q ++ (t.verdictNotices k lk before q ++ t.verdictNotices j lj before q)) := by
  obtain ⟨u, w, hws⟩ := hws
  have hall : NoticesAs s t fun q => s.stationNotices t st q ++ ws q ++ spanNotices k lk .split sk q ++
      spanNotices j lj .split sj q ++ (a.verdictNotices k lk before q ++ a.verdictNotices j lj before q) := by
    simpa only [List.append_assoc] using h
  have hbeside : ∀ i q, BesideSpan i (s.stationNotices t st q ++ ws q) := fun i q =>
    ⟨by rw [List.filter_append, (besideSpan_stationNotices q).span, hws.filter_key q rfl]; rfl,
      by rw [List.filter_append, (besideSpan_stationNotices q).verdict, hws.filter_key q rfl]; rfl⟩
  obtain ⟨hendsk, hendsj⟩ := hall.endsTold_of_two hne (hbeside k) (hbeside j) fun q i => by
    rw [List.filter_append, verdictNotices_filter_ne (by simp), verdictNotices_filter_ne (by simp)]
    rfl
  rw [verdictNotices_congr hk, verdictNotices_congr hj]
  refine ⟨hendsk, hendsj, hall.verdictTold fun q _ => ?_, hall.verdictTold fun q _ => ?_, fun q => ?_⟩
  · rw [List.filter_append, List.filter_append, List.filter_append, (hbeside k q).verdict, spanNotices_filter_ne (by simp),
      spanNotices_filter_ne (by simp), List.filter_append, verdictNotices_filter_ne (j := j) (by simpa using hne),
      verdictNotices_congr hk]
    simp
  · rw [List.filter_append, List.filter_append, List.filter_append, (hbeside j q).verdict, spanNotices_filter_ne (by simp),
      spanNotices_filter_ne (by simp), List.filter_append, verdictNotices_filter_ne (j := k) (by simpa using hne.symm),
      verdictNotices_congr hj]
    simp
  · have hkeys := splitNotices_keys (s := s) (t := t) (a := a) (st := st) (lk := lk) (lj := lj) (k := k) (j := j) q sk sj before
      before
    refine h.gainedBesideWatch ?_ (keys_nodup hkeys (by simpa using hne))
    have hself := filter_besideWatch_of_keys hkeys (by simp [NoticeKey.besideWatch])
    simp only [List.filter_append, hws.filter_besideWatch, List.nil_append, List.append_assoc] at hself ⊢
    exact hself

/-- The state of each half of a split, by its other end: the station between them is in service (R22). -/
theorem stateOn_of_returned (h : ToldOf s a st .inService) (hk : k.downStation = st) (hu : lk.upstream ≠ st)
    (hj : lj.upstream = st) (hd : j.downStation ≠ st) :
    a.stateOn k (some lk) = (if s.inService lk.upstream = true then .opened else .suspended) ∧
      a.stateOn j (some lj) = if s.inService j.downStation = true then .opened else .suspended := by
  have hself : a.inService st = true := by rw [h.inService, if_pos rfl]; rfl
  have hup : a.bothEndsIn k lk = true ↔ s.inService lk.upstream = true := by
    rw [bothEndsIn_iff, hk, h.inService, if_neg hu]
    exact and_iff_left hself
  have hdown : a.bothEndsIn j lj = true ↔ s.inService j.downStation = true := by
    rw [bothEndsIn_iff, hj, h.inService j.downStation, if_neg hd]
    exact and_iff_right hself
  rw [State.stateOn, State.stateOn]
  exact ⟨if_congr hup rfl rfl, if_congr hdown rfl rfl⟩

end

end Sys2Proof.Machine

open Sys2Proof Sys2Proof.Machine

/-- Settles O14: the cut is that of the state before, which the station's record and notices do not reach; each half is a
record restarted from its own queue. -/
theorem splitOfHeldSpan : Obligations.SplitOfHeldSpan := by
  unfold Obligations.SplitOfHeldSpan
  intro s c st k j l hreturn htop habsent hempty h0 hn hk hl hu hkj hclosed
  obtain ⟨s0, t, e, hrun⟩ := returnsBy_run hreturn
  have htold := hrun.toldOf
  obtain ⟨hne, ⟨lk, lj, hlines⟩, hchange⟩ := split_setting hrun hreturn.1 htop h0 hn hk hl hu hkj
  rw [if_neg hclosed] at hchange
  obtain ⟨hfree, hqueues, hoffered⟩ := splitOpen_store (s := s0.serviceTold st .inService e) hne
  have hspan := splitOpen_span (s := s0.serviceTold st .inService e) hne
  obtain ⟨ws, ⟨w, hws⟩, hraised⟩ := raisedAs_splitOpen hne hlines.up hlines.down
  rw [← hchange] at hfree hqueues hoffered hspan hraised
  rw [htold.spans] at hraised
  have hnotices := hrun.noticesAs hraised
  rw [← hrun.after.span_eq, ← hrun.after.span_eq] at hnotices
  obtain ⟨hendsk, hendsj, hverdictk, hverdictj, hgained⟩ := hnotices.split hne ⟨_, _, hws⟩ (hrun.after.span_eq k)
    (hrun.after.span_eq j)
  generalize s0.serviceTold st .inService e = a at htold hlines hfree hqueues hoffered hspan
  have hcut : a.cutVolume j = lj.vSpan := by rw [State.cutVolume, hlines.down]; rfl
  rw [hcut] at hfree hqueues hoffered hspan
  obtain ⟨hcutFree, hcutQueues⟩ := cutFrom_congr htold.free htold.queues j lj.vSpan
  have hqueue : ∀ i, t.queue i = (a.splitQueue k j lj.vSpan).queue i :=
    fun i => (hrun.after.queue_eq i).trans (queue_congr hqueues i)
  have hsource : (a.cutFrom j lj.vSpan).queue j = (s.cutFrom j lj.vSpan).queue j := queue_congr hcutQueues j
  obtain ⟨hfill, hvolume, hsolids⟩ := splitQueue_sums (s := a) hne lj.vSpan
  rw [← hqueue, ← hqueue, hsource] at hvolume hsolids
  rw [← hqueue, hsource] at hfill
  have hwalk : cutWalk lj.vSpan (a.queue j) = cutWalk lj.vSpan (s.queue j) := by rw [queue_congr htold.queues]
  rw [hwalk, reclaimOffers_congr htold.free htold.queues] at hoffered
  obtain ⟨hindex, -, -⟩ := allocate_congr htold.free htold.queues
  have hrec : ∀ h, h = k ∨ h = j → Restarted ((s.span j).halved (a.lineOf h) (t.queue h)) (t.span h) s.lineTime
      (a.stateOn h (a.lineOf h)) := fun h hh => by
    rw [hrun.after.span_eq, hspan, if_pos hh, hqueue, htold.spans, htold.lineTime]
    exact restarted_restarts _ _ _
  have hreck := hrec k (.inl rfl)
  have hrecj := hrec j (.inr rfl)
  rw [hlines.up] at hreck
  rw [hlines.down] at hrecj
  have hup : lk.upstream ≠ st := fun h => by
    rw [← hlines.upUpstream, h, ← hk, downStation_val] at hu
    exact lt_irrefl _ hu
  have hdown : j.downStation ≠ st := fun h => hne (SegId.eq_of_num_eq (by
    rw [← downStation_val k, ← downStation_val j, h, hk]))
  obtain ⟨hstatek, hstatej⟩ := stateOn_of_returned htold hk hup hlines.downUpstream hdown
  have hsegments : ∀ i, t.segment i = s.segment i := fun i => by
    rw [hrun.after.segment_eq, changeService_sameSegments, hrun.before.segment_eq]
  refine ⟨t, s.cutFrom j lj.vSpan, lk, lj, hrun.exec, hreck.line, hrecj.line, hlines.upUpstream, hlines.downUpstream, hlines.vSpan,
    drawn_congr hsegments hlines.upDrawn, drawn_congr hsegments hlines.downDrawn, rfl, ?offered, fun h => ?free,
    fun stay straddler go h => ?walk, hfill, hvolume, hsolids, fun h hh => ?record,
    hreck.state_eq.trans (by rw [hstatek, hlines.upUpstream]), hrecj.state_eq.trans hstatej, hendsk, hendsj, hverdictk, hverdictj,
    fun q => ⟨_, .refl _, hgained q⟩, fun i hij hik => ⟨?other, ?queue⟩⟩
  case offered =>
    have hoff := (OfferedTo.of_watches htold.watches).trans hoffered
    exact OfferedTo.offered ⟨hrun.after.watches_eq.trans hoff.watches⟩
  case free =>
    have h' := splitQueue_free (s := a) hne lj.vSpan (by rw [hwalk, hsource]; exact h)
    exact hrun.after.store_eq.1.trans (hfree.trans (h'.trans hcutFree))
  case walk =>
    have h' := splitQueue_walk (s := a) (stay := stay) (straddler := straddler) (go := go) hne lj.vSpan (by
      rw [hsource]
      exact h)
    rwa [← hqueue, ← hqueue, hindex] at h'
  case record =>
    have hr := hrec h hh
    exact ⟨hr.q, hr.s, hr.d, hr.latch, hr.hold, hr.epoch, hr.verdict⟩
  case other =>
    rw [hrun.after.span_eq, hspan, if_neg (not_or.mpr ⟨hik, hij⟩), span_of_kept htold (hlines.others i hij hik)]
  case queue =>
    rw [hqueue, (splitQueue_cases (s := a) hne lj.vSpan).1 i hij hik, queue_congr hcutQueues]

end

section
/-! The arbiter's choice, and what one balance update and one inflow do to the records, the store and the counters (R44, R48,
R80, R87 to R98). -/

namespace Sys2Proof.Machine

/-! The arbiter (R44). -/

/-- The search order passes a port after as many others as its turn says. -/
theorem searchOrder_turnOf : ∀ (last : Option PortId) (p : PortId), (searchOrder last)[turnOf last p]? = some p := by
  decide

theorem turnOf_searchOrder : ∀ (last : Option PortId) (i : Fin 4), ∃ q, (searchOrder last)[i.val]? = some q ∧
    turnOf last q = i.val := by
  decide

theorem turnOf_lt (last : Option PortId) (p : PortId) : turnOf last p < 4 := by
  cases last with
  | none => exact p.isLt
  | some q => exact (p - q - 1).isLt

section
variable {s : State} {p : PortId} {r : Reading} {c : Conversion} {m : Nat}

theorem grantee_of_grantsTo (h : s.grantsTo p r c m) : s.grantee = some p := by
  obtain ⟨hp, hbefore⟩ := grantsTo_iff.1 h
  obtain ⟨hlt, hget⟩ := List.getElem?_eq_some_iff.1 (searchOrder_turnOf s.lastGranted p)
  refine List.find?_eq_some_iff_getElem.2 ⟨by simp [hp], turnOf s.lastGranted p, hlt, hget, fun i hi => ?_⟩
  obtain ⟨q, hq, hturn⟩ := turnOf_searchOrder s.lastGranted ⟨i, hi.trans (turnOf_lt _ _)⟩
  obtain ⟨hlt', hq'⟩ := List.getElem?_eq_some_iff.1 hq
  have hnone := hbefore q (by rw [hturn]; exact hi)
  simp only at hq'
  rw [hq', hnone]
  rfl

theorem exec_grant_of_grantsTo (h : s.grantsTo p r c m) : exec .grant s = .next (s.applyGrant p r c m) := by
  obtain ⟨hp, -⟩ := grantsTo_iff.1 h
  show execGrant s = _
  simp only [execGrant, grantee_of_grantsTo h, hp]

end

/-! States of the same engine: what `updatedBy` and `filledBy` speak of. -/

/-- The line time, the store, the spans and the segments stand. -/
structure SameEngine (s t : State) : Prop where
  lineTime : t.lineTime = s.lineTime
  free : t.free = s.free
  queues : t.queues = s.queues
  spans : t.spans = s.spans
  segments : t.segments = s.segments

section
variable {s s' u u' t : State}

theorem SameEngine.refl (s : State) : SameEngine s s := ⟨rfl, rfl, rfl, rfl, rfl⟩

theorem SameEngine.trans (h : SameEngine s t) (k : SameEngine t u) : SameEngine s u :=
  ⟨k.lineTime.trans h.lineTime, k.free.trans h.free, k.queues.trans h.queues, k.spans.trans h.spans,
    k.segments.trans h.segments⟩

theorem SameEngine.symm (h : SameEngine s t) : SameEngine t s :=
  ⟨h.lineTime.symm, h.free.symm, h.queues.symm, h.spans.symm, h.segments.symm⟩

theorem SamplesOnly.sameEngine (h : SamplesOnly s t) : SameEngine s t := by
  obtain ⟨-, -, hl, -, hf, hq, hs, hg, -⟩ := h.same
  exact ⟨hl, hf, hq, hs, hg⟩

theorem SameEngine.queue_eq (h : SameEngine s t) (j : SpanId) : t.queue j = s.queue j := by
  rw [State.queue, h.queues]
  rfl

theorem SameEngine.span_eq (h : SameEngine s t) (j : SpanId) : t.span j = s.span j := by
  rw [State.span, h.spans]
  rfl

theorem SameEngine.segment_eq (h : SameEngine s t) (k : SegId) : t.segment k = s.segment k := by
  rw [State.segment, h.segments]
  rfl

theorem SameEngine.sameSpans (h : SameEngine s t) : s.sameSpans t := h.span_eq

theorem SameEngine.sameStore (h : SameEngine s t) : s.sameStore t := ⟨h.free, h.queue_eq⟩

theorem SameEngine.updatedBy {j : SpanId} {l : SpanLine} {c : Conversion} {m : Nat} {xs : List Sample}
    (hs : SameEngine s s') (hu : SameEngine u u') (h : s.updatedBy u j l c m xs) : s'.updatedBy u' j l c m xs := by
  simpa only [State.updatedBy, hs.queue_eq, hs.span_eq, hs.segment_eq, hs.free, hs.lineTime, hu.queue_eq, hu.span_eq,
    hu.free] using h

theorem SameEngine.reclaimOffers (h : SameEngine s t) : t.reclaimOffers = s.reclaimOffers := by
  simp only [State.reclaimOffers, h.free, h.queue_eq, fullest_congr h.queues]

theorem SameEngine.filledBy {j : SpanId} {g : SegId} {p : StationId} {b : BankId} {c : Conversion} {m : Nat}
    {xs : List Sample} (hs : SameEngine s s') (hu : SameEngine u u') (h : s.filledBy u j g p b c m xs) :
    s'.filledBy u' j g p b c m xs := by
  obtain ⟨hindex, hfree, hqueues⟩ := allocate_congr hs.free hs.queues
  have hqueue : ∀ i, s'.allocate.2.queue i = s.allocate.2.queue i := queue_congr hqueues
  simpa only [State.filledBy, State.sameStore, hs.queue_eq, hs.span_eq, hs.segment_eq, hs.free, hs.lineTime, hu.queue_eq,
    hu.span_eq, hu.free, hindex, hfree, hqueue, hs.reclaimOffers] using h

end

/-! A balance update (R89 to R98). -/

theorem judged_derived (sp : Span) (t : Thresholds) (f : Flags) (taint : Bool) : sp.judged t f taint =
    Span.derive { sp.judged t f taint with verdict := sp.verdict, latch := sp.latch } := by
  unfold Span.judged
  split <;> rfl

/-- The evidence moves exactly in a counted update (R98, R118). -/
theorem judged_evidence {sp y : Span} {t : Thresholds} {f : Flags} {taint : Bool} (hy : y = sp.judged t f taint) :
    if sp.hold = none ∧ f.estimated = false ∧ taint = false ∧ y.window.length = 16 then
      y.eLeak = moveEvidence sp.eLeak (y.leakHolds t) ∧ y.eDep = moveEvidence sp.eDep (y.depositHolds t) ∧
        y.eDrift = moveEvidence sp.eDrift (y.driftHolds t)
    else y.eLeak = sp.eLeak ∧ y.eDep = sp.eDep ∧ y.eDrift = sp.eDrift := by
  have hcounts : sp.counts f taint = true ↔ sp.hold = none ∧ f.estimated = false ∧ taint = false ∧
      sp.window.length = 16 := by
    simp only [Span.counts, Bool.and_eq_true, decide_eq_true_iff, Bool.not_eq_true', Option.isNone_iff_eq_none, and_assoc]
    rfl
  have hwindow : y.window = sp.window := by rw [hy, judged_eq]
  rw [hwindow]
  subst hy
  by_cases hc : sp.counts f taint = true
  · rw [if_pos (hcounts.1 hc), Span.judged, if_pos hc]
    exact ⟨rfl, rfl, rfl⟩
  · rw [if_neg (fun h => hc (hcounts.2 h)), Span.judged, if_neg hc]
    exact ⟨rfl, rfl, rfl⟩

section
variable (s : State) (j : SpanId) (l : SpanLine) (c : Conversion) (m : Nat)

/-- The record that a balance update leaves (R89). -/
def State.updatedRecord : Span :=
  ((s.span j).weighed (drainQueue c.v (s.queue j)) c.v m (velocity c.v (s.segment l.last).area c.tC)).judged l.thr c.flags
    (drainQueue c.v (s.queue j)).taint

/-- The samples that a balance update offers, in their order (R94). -/
def State.updateOffers : List Sample :=
  exitSamples j s.lineTime (drainQueue c.v (s.queue j)).portions ++
    updateSamples j (s.updatedRecord j l c m) (drainQueue c.v (s.queue j)).queue.length
      (deficitOf (drainQueue c.v (s.queue j)).e m) (drainQueue c.v (s.queue j)).shortfall

theorem balanceUpdate_sameEngine : SameEngine
    ((s.drained j (drainQueue c.v (s.queue j))).setSpan j (s.updatedRecord j l c m)) (s.balanceUpdate j l c m) :=
  (balanceUpdate_samplesOnly s j l c m).sameEngine

theorem balanceUpdate_span (i : SpanId) :
    (s.balanceUpdate j l c m).span i = if i = j then s.updatedRecord j l c m else s.span i := by
  rw [(balanceUpdate_sameEngine s j l c m).span_eq]
  by_cases h : i = j
  · subst h
    rw [if_pos rfl, setSpan_span_same]
  · rw [if_neg h, setSpan_span_ne _ _ _ h]
    rfl

theorem balanceUpdate_queue (i : SpanId) : (s.balanceUpdate j l c m).queue i =
    if i = j then (drainQueue c.v (s.queue j)).queue else s.queue i := by
  rw [(balanceUpdate_sameEngine s j l c m).queue_eq]
  by_cases h : i = j
  · subst h
    rw [if_pos rfl]
    exact setQueue_queue_same _ _ _
  · rw [if_neg h]
    exact setQueue_queue_ne _ _ _ h

theorem balanceUpdate_free : (s.balanceUpdate j l c m).free = s.free ++ (drainQueue c.v (s.queue j)).freed := by
  rw [(balanceUpdate_sameEngine s j l c m).free]
  rfl

theorem offeredTo_balanceUpdate : OfferedTo s (s.balanceUpdate j l c m) (s.updateOffers j l c m) := by
  have h := (noticesOnly_announceVerdict ((s.drained j (drainQueue c.v (s.queue j))).setSpan j (s.updatedRecord j l c m)) j
    (s.span j).verdict).offeredTo
  have h0 : OfferedTo s ((s.drained j (drainQueue c.v (s.queue j))).setSpan j (s.updatedRecord j l c m)) [] :=
    .of_watches rfl
  exact (h0.trans h).trans (offeredTo_offerAll _ _)

end

section
variable {s : State} {j : SpanId} {l : SpanLine} (c : Conversion) (m : Nat)

/-- The fields of the record that the judgement leaves as the weighing made them. -/
theorem updatedRecord_eq : s.updatedRecord j l c m =
    { (s.span j).weighed (drainQueue c.v (s.queue j)) c.v m (velocity c.v (s.segment l.last).area c.tC) with
      eLeak := (s.updatedRecord j l c m).eLeak
      eDep := (s.updatedRecord j l c m).eDep
      eDrift := (s.updatedRecord j l c m).eDrift
      verdict := (s.updatedRecord j l c m).verdict
      latch := (s.updatedRecord j l c m).latch } := by
  unfold State.updatedRecord Span.judged
  split <;> rfl

theorem overU48_iff (x : Nat) : overU48 x = true ↔ 2 ^ 48 - 1 < x := decide_eq_true_iff

/-- Q, S, D, I, out, the update count and v_out rise and fall within their limits; O, in, v_in, the epoch, the state, the hold
and the place on the line stand (R90 to R92). -/
theorem updatedRecord_balance {y : Span} (hy : y = s.updatedRecord j l c m) {d : DrainReport}
    (hd : d = drainQueue c.v (s.queue j)) :
    y.q = (s.span j).q - d.drained ∧ y.s = (s.span j).s - d.e ∧ y.d = min ((s.span j).d + d.shortfall) (2 ^ 48 - 1) ∧
      y.i = max (-2 ^ 47) (min ((s.span j).i + ((d.e : Int) - m)) (2 ^ 47 - 1)) ∧
      y.outflow = min ((s.span j).outflow + c.v) (2 ^ 48 - 1) ∧ y.updates = min ((s.span j).updates + 1) (2 ^ 32 - 1) ∧
      y.vOut = some (velocity c.v (s.segment l.last).area c.tC) ∧ y.o = (s.span j).o ∧ y.inflow = (s.span j).inflow ∧
      y.vIn = (s.span j).vIn ∧ y.epochStart = (s.span j).epochStart ∧ y.line = (s.span j).line ∧
      y.state = (s.span j).state ∧ y.hold = (s.span j).hold := by
  rw [hy, updatedRecord_eq, weighed_eq, ← hd]
  exact ⟨rfl, rfl, rfl, rfl, rfl, rfl, rfl, rfl, rfl, rfl, rfl, rfl, rfl, rfl⟩

/-- The mark is set where a limit is passed (R80). -/
theorem updatedRecord_mark {d : DrainReport} (hd : d = drainQueue c.v (s.queue j)) :
    (s.updatedRecord j l c m).mark = true ↔ (s.span j).mark = true ∨ (s.span j).q < d.drained ∨ (s.span j).s < d.e ∨
      2 ^ 48 - 1 < (s.span j).d + d.shortfall ∨ (s.span j).i + ((d.e : Int) - m) < -2 ^ 47 ∨
      2 ^ 47 - 1 < (s.span j).i + ((d.e : Int) - m) ∨ 2 ^ 48 - 1 < (s.span j).outflow + c.v := by
  rw [updatedRecord_eq, weighed_eq, ← hd]
  simp only [Bool.or_eq_true, decide_eq_true_iff, overU48_iff, overS48_iff, or_assoc, deficitOf]

theorem updatedRecord_window {d : DrainReport} (hd : d = drainQueue c.v (s.queue j)) :
    (s.updatedRecord j l c m).window =
      (if (s.span j).window.length < 16 then (s.span j).window else (s.span j).window.tail) ++
        [⟨(d.e : Int) - m, c.v, d.e⟩] := by
  rw [updatedRecord_eq, weighed_eq, ← hd]
  exact pushEntry_window _ _

theorem updatedRecord_evidence {y : Span} (hy : y = s.updatedRecord j l c m) {d : DrainReport}
    (hd : d = drainQueue c.v (s.queue j)) :
    if (s.span j).hold = none ∧ c.flags.estimated = false ∧ d.taint = false ∧ y.window.length = 16 then
      y.eLeak = moveEvidence (s.span j).eLeak (y.leakHolds l.thr) ∧ y.eDep = moveEvidence (s.span j).eDep (y.depositHolds l.thr) ∧
        y.eDrift = moveEvidence (s.span j).eDrift (y.driftHolds l.thr)
    else y.eLeak = (s.span j).eLeak ∧ y.eDep = (s.span j).eDep ∧ y.eDrift = (s.span j).eDrift := by
  subst hd
  have h := judged_evidence (y := y) hy
  rw [weighed_eq] at h
  exact h

theorem updatedRecord_derived : s.updatedRecord j l c m =
    Span.derive { s.updatedRecord j l c m with verdict := (s.span j).verdict, latch := (s.span j).latch } := by
  have h := judged_derived ((s.span j).weighed (drainQueue c.v (s.queue j)) c.v m
    (velocity c.v (s.segment l.last).area c.tC)) l.thr c.flags (drainQueue c.v (s.queue j)).taint
  rw [weighed_eq] at h
  rw [State.updatedRecord, weighed_eq]
  exact h

theorem updatedRecord_reportedExcess (hl : (s.span j).line = some l) {y : Span} (hy : y = s.updatedRecord j l c m) :
    y.reportedExcess = max (-2 ^ 47) (min ((y.q : Int) - y.d - l.vSpan) (2 ^ 47 - 1)) := by
  have hline : y.line = some l := by
    obtain ⟨-, -, -, -, -, -, -, -, -, -, -, h, -⟩ := updatedRecord_balance c m hy rfl
    rw [h, hl]
  rw [Span.reportedExcess, satS48_eq, excess_of_line hline]

/-- A balance update in the words of R89 to R98. -/
theorem updatedBy_balanceUpdate (hl : (s.span j).line = some l) (hlast : l.last = j) :
    s.updatedBy (s.balanceUpdate j l c m) j l c m (s.updateOffers j l c m) := by
  have hspan : (s.balanceUpdate j l c m).span j = s.updatedRecord j l c m := by
    rw [balanceUpdate_span, if_pos rfl]
  have hqueue : (s.balanceUpdate j l c m).queue j = (drainQueue c.v (s.queue j)).queue := by
    rw [balanceUpdate_queue, if_pos rfl]
  have hother : ∀ i, i ≠ j → (s.balanceUpdate j l c m).queue i = s.queue i ∧
      (s.balanceUpdate j l c m).span i = s.span i := fun i hi => by
    rw [balanceUpdate_span, balanceUpdate_queue, if_neg hi, if_neg hi]
    exact ⟨rfl, rfl⟩
  obtain ⟨hq, hs, hd, hi, hout, hup, hvOut, ho, hin, hvIn, hepoch, -⟩ :=
    updatedRecord_balance (s := s) (j := j) (l := l) c m rfl rfl
  rw [hlast] at hvOut
  refine ⟨drainQueue c.v (s.queue j), rfl, hqueue, balanceUpdate_free s j l c m, hother, ?_⟩
  rw [hspan]
  refine ⟨hq, hs, hd, hi, hout, hup, updatedRecord_mark c m rfl, updatedRecord_window c m rfl, hvOut, ho, hin, hvIn, hepoch,
    updatedRecord_evidence c m rfl rfl, updatedRecord_derived c m, ?_⟩
  rw [← updatedRecord_reportedExcess c m hl rfl]
  rfl

end

end Sys2Proof.Machine

end

section
/-! What an inflow and the removal of a granted head do, to the records, the store and the counters (R45, R48, R87, R88). -/

namespace Sys2Proof.Machine

/-! An inflow (R48, R87, R88). -/

section
variable {s : State} {j : SpanId} {l : SpanLine} {st : StationId} {b : BankId} {c : Conversion} {m : Nat}

theorem inflowTo_of_volume (hv : c.v ≠ 0) : s.inflowTo j l st b c m =
    ((s.allocate.2.append j ⟨s.allocate.1, st, s.lineTime, c.v, m, b, c.flags.ofInflow (s.span j).hold.isSome⟩).setSpan j
      ((s.allocate.2.span j).takeInflow c.v m (velocity c.v (s.segment l.first).area c.tC))).offer
      ⟨.inflowVelocity, velocity c.v (s.segment l.first).area c.tC, some j, none, none⟩ := if_neg hv

/-- The samples that an inflow offers, in their order (R48, R60). -/
def State.inflowOffers (s : State) (j : SpanId) (l : SpanLine) (c : Conversion) : List Sample :=
  if c.v = 0 then []
  else s.reclaimOffers ++ [⟨.inflowVelocity, velocity c.v (s.segment l.first).area c.tC, some j, none, none⟩]

theorem offeredTo_inflowTo : OfferedTo s (s.inflowTo j l st b c m) (s.inflowOffers j l c) := by
  unfold State.inflowOffers
  by_cases hv : c.v = 0
  · rw [if_pos hv, inflowTo_idle _ _ _ _ _ _ _ hv]
    exact .of_watches rfl
  · rw [if_neg hv, inflowTo_of_volume hv]
    have h0 : OfferedTo s.allocate.2 ((s.allocate.2.append j ⟨s.allocate.1, st, s.lineTime, c.v, m, b,
      c.flags.ofInflow (s.span j).hold.isSome⟩).setSpan j
      ((s.allocate.2.span j).takeInflow c.v m (velocity c.v (s.segment l.first).area c.tC))) [] := .of_watches rfl
    rw [← List.append_nil s.reclaimOffers]
    exact ((offeredTo_allocate s).trans h0).trans (offeredTo_offer _ _)

theorem watchRaised_inflowTo : ∃ ws, WatchRaised s (s.inflowTo j l st b c m) ws := by
  by_cases hv : c.v = 0
  · rw [inflowTo_idle _ _ _ _ _ _ _ hv]
    exact ⟨_, .of_ports rfl rfl⟩
  · rw [inflowTo_of_volume hv]
    obtain ⟨ws, hws⟩ := watchRaised_allocate s
    have h0 : WatchRaised s.allocate.2 ((s.allocate.2.append j ⟨s.allocate.1, st, s.lineTime, c.v, m, b,
      c.flags.ofInflow (s.span j).hold.isSome⟩).setSpan j
      ((s.allocate.2.span j).takeInflow c.v m (velocity c.v (s.segment l.first).area c.tC))) (fun _ => []) :=
      .of_ports rfl rfl
    obtain ⟨vs, hvs⟩ := watchRaised_offer ((s.allocate.2.append j ⟨s.allocate.1, st, s.lineTime, c.v, m, b,
      c.flags.ofInflow (s.span j).hold.isSome⟩).setSpan j
      ((s.allocate.2.span j).takeInflow c.v m (velocity c.v (s.segment l.first).area c.tC)))
      ⟨.inflowVelocity, velocity c.v (s.segment l.first).area c.tC, some j, none, none⟩
    exact ⟨_, (hws.trans h0).trans hvs⟩

theorem inflowTo_span (i : SpanId) : (s.inflowTo j l st b c m).span i =
    if i = j then
      if c.v = 0 then (s.span j).takeIdleInflow
      else (s.span j).takeInflow c.v m (velocity c.v (s.segment l.first).area c.tC)
    else s.span i := by
  by_cases hv : c.v = 0
  · rw [inflowTo_idle _ _ _ _ _ _ _ hv, if_pos hv]
    by_cases h : i = j
    · subst h
      rw [if_pos rfl, setSpan_span_same]
    · rw [if_neg h, setSpan_span_ne _ _ _ h]
  · rw [(inflowTo_samplesOnly s j l st b c m hv).span_eq, if_neg hv, (storeOnly_allocate s).span_eq]
    by_cases h : i = j
    · subst h
      rw [if_pos rfl, setSpan_span_same]
    · rw [if_neg h, setSpan_span_ne _ _ _ h]
      exact (storeOnly_allocate s).span_eq i

/-- An inflow in the words of R48, R87 and R88. -/
theorem filledBy_inflowTo {g : SegId} (hg : l.first = g) :
    s.filledBy (s.inflowTo j l st b c m) j g st b c m (s.inflowOffers j l c) := by
  have hspan := inflowTo_span (s := s) (j := j) (l := l) (st := st) (b := b) (c := c) (m := m)
  refine ⟨fun i hi => by rw [hspan, if_neg hi], fun hv => ?_, fun hv => ?_⟩
  · refine ⟨by rw [hspan, if_pos rfl, if_pos hv]; rfl, ?_, if_pos hv⟩
    rw [inflowTo_idle _ _ _ _ _ _ _ hv]
    exact ⟨rfl, fun _ => rfl⟩
  · have hne : c.v ≠ 0 := hv.ne'
    have h := (inflowTo_samplesOnly s j l st b c m hne).sameEngine
    refine ⟨velocity c.v (s.segment g).area c.tC, rfl, ?_, fun i hi => ?_, h.free, ?_, ?_⟩
    · rw [h.queue_eq]
      exact setQueue_queue_same _ _ _
    · rw [h.queue_eq]
      exact setQueue_queue_ne _ _ _ hi
    · rw [hspan, if_pos rfl, if_neg hne, hg]
      rfl
    · rw [State.inflowOffers, if_neg hne, hg]

end

/-! The removal of a head (R31, R39, R45). -/

section
variable {x : Station} {r : Reading} {e : LineTime} {st : StationId}

/-- A station without its head reading. -/
def Station.headDropped (x : Station) : Station := { x with queue := x.queue.tail }

theorem removeHead_eq (s : State) (st : StationId) :
    s.removeHead st = (s.setStation st (s.station st).headDropped).convertHead st := rfl

/-- A head converted, field by field. -/
theorem headConverted_of_cons {rest : List Reading} (h : x.queue = r :: rest) :
    (x.headConverted e).queue = { r with stage := convert (x.banks.get r.bank) x.lastGood r } :: rest ∧
      (x.headConverted e).lastGood = lastGoodAfter (x.banks.get r.bank) x.lastGood r := by
  unfold Station.headConverted
  rw [h]
  exact ⟨rfl, rfl⟩

/-- A conversion touches the queue, the last-good composition and the resolve timer. -/
theorem headConverted_same (x : Station) (e : LineTime) : (x.headConverted e).tag = x.tag ∧
    (x.headConverted e).service = x.service ∧ (x.headConverted e).silence = x.silence ∧
    (x.headConverted e).banks = x.banks ∧ (x.headConverted e).active = x.active := by
  unfold Station.headConverted
  split <;> exact ⟨rfl, rfl, rfl, rfl, rfl⟩

theorem headRemoved_headConverted (x : Station) (e : LineTime) : x.headRemoved (x.headDropped.headConverted e) := by
  have hsame := headConverted_same x.headDropped e
  cases hq : x.queue.tail with
  | nil =>
    rw [headConverted_of_empty hq] at hsame ⊢
    have hnone : ∀ {P : Reading → Prop}, ∀ r ∈ x.queue.tail.head?, P r := fun r hr => by rw [hq] at hr; cases hr
    exact ⟨List.length_tail, congrArg List.tail hq ▸ hq ▸ rfl, hnone, fun _ => rfl, hnone, hsame⟩
  | cons r rest =>
    obtain ⟨hqueue, hgood⟩ := headConverted_of_cons (x := x.headDropped) (e := e) hq
    have hsome : ∀ y ∈ x.queue.tail.head?, y = r := fun y hy => by
      rw [hq] at hy
      exact (Option.some.inj hy).symm
    refine ⟨?_, by rw [hqueue, hq]; rfl, fun y hy => ?_, fun h => by simp [hq] at h, fun y hy => ?_, hsame⟩
    · rw [hqueue, List.length_cons, ← List.length_tail, hq, List.length_cons]
    · rw [hsome y hy, hqueue]
      rfl
    · rw [hsome y hy, hgood]
      rfl

/-- The resolve timer starts exactly where the next head converts AWAITING (R39). -/
theorem headConverted_resolve_of_awaits {c : Conversion} (h : x.nextAwaits r c) :
    (x.headDropped.headConverted e).resolve = some e := by
  obtain ⟨hhead, hc⟩ := h
  obtain ⟨rest, hq⟩ := List.head?_eq_some_iff.1 hhead
  rw [headConverted_of_awaiting (x := x.headDropped) hq hc]

theorem headConverted_resolve_of_not_awaits (h : ∀ r c, ¬ x.nextAwaits r c) :
    (x.headDropped.headConverted e).resolve = x.resolve := by
  cases hq : x.queue.tail with
  | nil =>
    rw [headConverted_of_empty (x := x.headDropped) hq]
    rfl
  | cons r rest =>
    have hc : ∀ c, convert (x.headDropped.banks.get r.bank) x.headDropped.lastGood r ≠ .awaiting c :=
      fun c hc => h r c ⟨by rw [hq]; rfl, hc⟩
    rw [headConverted_of_settled (x := x.headDropped) hq rfl hc]
    rfl

/-- The removal of a head whose next converts AWAITING changes the station and raises the resolve (R39, R45). -/
theorem removeHead_of_awaits {s : State} {c : Conversion} (h : (s.station st).nextAwaits r c) :
    ∃ y, s.removeHead st = (s.setStation st y).raiseResolve st r c := by
  obtain ⟨hhead, hc⟩ := h
  obtain ⟨rest, hq⟩ := List.head?_eq_some_iff.1 hhead
  have hst : (s.setStation st (s.station st).headDropped).station st = (s.station st).headDropped :=
    setStation_station_same _ _ _
  rw [removeHead_eq, convertHead_of_awaiting (by rw [hst]; exact hq) (by rw [hst]; exact hc), setStation_setStation]
  exact ⟨_, rfl⟩

/-- The removal of another head changes the station alone (R31, R45). -/
theorem removeHead_of_not_awaits {s : State} (h : ∀ r c, ¬ (s.station st).nextAwaits r c) :
    ∃ y, s.removeHead st = s.setStation st y := by
  have hst : (s.setStation st (s.station st).headDropped).station st = (s.station st).headDropped :=
    setStation_station_same _ _ _
  cases hq : (s.station st).queue.tail with
  | nil =>
    rw [removeHead_eq, convertHead_of_empty (by rw [hst]; exact hq)]
    exact ⟨_, rfl⟩
  | cons r rest =>
    have hc : ∀ c, convert ((s.station st).headDropped.banks.get r.bank) (s.station st).headDropped.lastGood r ≠
        .awaiting c := fun c hc => h r c ⟨by rw [hq]; rfl, hc⟩
    rw [removeHead_eq, convertHead_of_settled (by rw [hst]; exact hq) rfl (by rw [hst]; exact hc), setStation_setStation]
    exact ⟨_, rfl⟩

theorem resolveOffers_of_awaits {c : Conversion} (h : x.nextAwaits r c) (p : PortId) :
    x.resolveOffers p = [⟨.resolves, 1, none, some p, none⟩] := by
  obtain ⟨hhead, hc⟩ := h
  obtain ⟨rest, hq⟩ := List.head?_eq_some_iff.1 hhead
  simp only [Station.resolveOffers, hq, hc]

theorem resolveOffers_of_not_awaits (h : ∀ r c, ¬ x.nextAwaits r c) (p : PortId) : x.resolveOffers p = [] := by
  cases hq : x.queue.tail with
  | nil => simp only [Station.resolveOffers, hq]
  | cons r rest =>
    cases hc : convert (x.banks.get r.bank) x.lastGood r with
    | awaiting c => exact absurd ⟨by rw [hq]; rfl, hc⟩ (h r c)
    | queued | ready _ _ => simp only [Station.resolveOffers, hq, hc]

/-- The removal offers the sample of the resolve that the next head raises (R39). -/
theorem offeredTo_removeHead (s : State) (st : StationId) :
    OfferedTo s (s.removeHead st) ((s.station st).resolveOffers st) := by
  by_cases h : ∃ r c, (s.station st).nextAwaits r c
  · obtain ⟨r, c, hr⟩ := h
    obtain ⟨y, hy⟩ := removeHead_of_awaits hr
    have h0 : OfferedTo s (s.setStation st y) [] := .of_watches rfl
    rw [resolveOffers_of_awaits hr, hy]
    exact h0.trans (offeredTo_raiseResolve _ _ _ _)
  · have hn : ∀ r c, ¬ (s.station st).nextAwaits r c := fun r c hr => h ⟨r, c, hr⟩
    obtain ⟨y, hy⟩ := removeHead_of_not_awaits hn
    rw [resolveOffers_of_not_awaits hn, hy]
    exact .of_watches rfl

end

end Sys2Proof.Machine

end

section
/-! The notices of a grant in their order: the VERDICT notice of the update, and behind it WATCH notices and the RESOLVE notice
of the next head (R39, R94, R126). -/

namespace Sys2Proof.Machine

/-! The keys of the ROUTINE part through raisings. -/

section
variable {p : Port} {body : NoticeBody} {now : LineTime} {q : PortId}

theorem mem_routineKeys_iff {k : NoticeKey} : k ∈ p.routine.map Notice.key ↔ holdsKey k p.routine = true := by
  rw [holdsKey_iff, List.mem_map]

/-- A ROUTINE raising adds its key to the ROUTINE part, or nothing. -/
theorem routineKeys_raise_routine (p : Port) (body : NoticeBody) (now : LineTime) :
    ∃ ws : List NoticeKey, (∀ k ∈ ws, k = body.key) ∧
      (p.raise body false now).routine.map Notice.key = p.routine.map Notice.key ++ ws := by
  unfold Port.raise
  split
  · exact ⟨[], by simp, by simp⟩
  · split
    · exact ⟨[], by simp, by rw [if_neg (by simp), Port.withNotices_routine, updateHeld_keys, List.append_nil]⟩
    · exact ⟨[body.key], by simp, by rw [if_neg (by simp), Port.withNotices_routine, List.map_append]; rfl⟩

/-- An URGENT raising leaves the ROUTINE part that does not hold its key. -/
theorem routineKeys_raise_urgent (now : LineTime) (h : body.key ∉ p.routine.map Notice.key) :
    (p.raise body true now).routine.map Notice.key = p.routine.map Notice.key := by
  unfold Port.raise
  split
  · rfl
  · rw [if_neg (fun hr => h (mem_routineKeys_iff.2 hr)), if_pos rfl]
    rfl

/-- A WATCH notice, ROUTINE, or an URGENT RESOLVE notice of the port: what a grant raises behind its VERDICT notice. -/
def AfterVerdict (q : PortId) (x : NoticeBody × Bool) : Prop :=
  (∃ i v, x = (.watch i v, false)) ∨ x.2 = true ∧ x.1.key = .resolve q

/-- They add WATCH keys alone to a ROUTINE part that holds no RESOLVE notice. -/
theorem routineKeys_raiseAll (p : Port) (now : LineTime) {xs : List (NoticeBody × Bool)} (hx : ∀ x ∈ xs, AfterVerdict q x)
    (hq : NoticeKey.resolve q ∉ p.routine.map Notice.key) : ∃ ws : List NoticeKey, (∀ k ∈ ws, ∃ i, k = .watch i) ∧
      (p.raiseAll now xs).routine.map Notice.key = p.routine.map Notice.key ++ ws := by
  induction xs generalizing p with
  | nil => exact ⟨[], by simp, by simp⟩
  | cons x xs ih =>
    have hrest : ∀ y ∈ xs, AfterVerdict q y := fun y hy => hx y (List.mem_cons_of_mem _ hy)
    have hstep : ∃ ws : List NoticeKey, (∀ k ∈ ws, ∃ i, k = .watch i) ∧
        (p.raise x.1 x.2 now).routine.map Notice.key = p.routine.map Notice.key ++ ws := by
      obtain ⟨i, v, rfl⟩ | ⟨hu, hk⟩ := hx x List.mem_cons_self
      · obtain ⟨ws, hws, he⟩ := routineKeys_raise_routine p (.watch i v) now
        exact ⟨ws, fun k hk => ⟨i, hws k hk⟩, he⟩
      · rw [hu, routineKeys_raise_urgent now (by rw [hk]; exact hq)]
        exact ⟨[], by simp, by simp⟩
    obtain ⟨ws, hws, he⟩ := hstep
    have hq' : NoticeKey.resolve q ∉ (p.raise x.1 x.2 now).routine.map Notice.key := by
      rw [he, List.mem_append, not_or]
      refine ⟨hq, fun hmem => ?_⟩
      obtain ⟨i, hi⟩ := hws _ hmem
      cases hi
    obtain ⟨vs, hvs, he'⟩ := ih (p.raise x.1 x.2 now) hrest hq'
    refine ⟨ws ++ vs, fun k hk => (List.mem_append.1 hk).elim (hws k) (hvs k), ?_⟩
    rw [Port.raiseAll_cons, he', he, List.append_assoc]

end

/-! Events that raise notices of a kind. -/

/-- An event raises, at each port, only notices of a kind. -/
def RaisesOnly (P : PortId → NoticeBody × Bool → Prop) (s t : State) : Prop :=
  ∃ xs, RaisedAs s t xs ∧ ∀ q, ∀ x ∈ xs q, P q x

section
variable {s t u : State} {P : PortId → NoticeBody × Bool → Prop}

theorem RaisesOnly.of_ports (h : t.ports = s.ports) (hl : t.lineTime = s.lineTime) : RaisesOnly P s t :=
  ⟨_, .of_ports h hl, fun _ _ hx => absurd hx List.not_mem_nil⟩

theorem RaisesOnly.trans (h : RaisesOnly P s t) (k : RaisesOnly P t u) : RaisesOnly P s u := by
  obtain ⟨xs, hr, hP⟩ := h
  obtain ⟨ys, kr, kP⟩ := k
  exact ⟨_, hr.trans kr, fun q x hx => (List.mem_append.1 hx).elim (hP q x) (kP q x)⟩

theorem WatchRaised.afterVerdict {ws : PortId → List (NoticeBody × Bool)} (h : WatchRaised s t ws) :
    RaisesOnly AfterVerdict s t :=
  ⟨ws, h.raised, fun q x hx => .inl (h.watch q x hx)⟩

/-- The notices that an announced verdict begins, WATCH and RESOLVE notices behind it, tell the ends of the verdict. -/
theorem verdictTold_of_first {v : State} {j : SpanId} {l : SpanLine} {before : Verdict}
    (h : RaisedAs s v (v.verdictNotices j l before)) (ht : RaisesOnly AfterVerdict v t) (hv : t.span j = v.span j) :
    s.verdictTold t j l before := by
  obtain ⟨xs, hxs, hP⟩ := ht
  refine ((h.trans hxs).noticesAs (.refl s) (.refl t)).verdictTold fun q _ => ?_
  have hnone : (xs q).filter (fun x => x.1.key == .verdict j) = [] := by
    rw [List.filter_eq_nil_iff]
    rintro x hx hk
    obtain ⟨i, v, rfl⟩ | ⟨-, hr⟩ := hP q x hx
    · simp [NoticeBody.key] at hk
    · simp [hr] at hk
  rw [List.filter_append, hnone, List.append_nil, verdictNotices_congr hv]

/-- They come behind the VERDICT notice in the ROUTINE part (R94). -/
theorem verdictBeforeWatch_of_first {v : State} {j : SpanId} {l : SpanLine}
    (h : RaisedAs s v (v.verdictNotices j l (s.span j).verdict)) (ht : RaisesOnly AfterVerdict v t)
    (hv : t.span j = v.span j) : s.verdictBeforeWatch t j l := by
  obtain ⟨xs, hxs, hP⟩ := ht
  intro q hq hverdict hresolve
  have hfirst : (v.port q).routine.map Notice.key = (s.port q).routine.map Notice.key ++
      if (t.span j).verdict ≠ (s.span j).verdict ∧ (t.span j).verdict ≠ .leak then [.verdict j] else [] := by
    rw [h.ports, State.verdictNotices, ← hv]
    by_cases hc : (t.span j).verdict = (s.span j).verdict
    · rw [if_neg (by simp [hc]), if_neg (by simp [hc])]
      simp
    · rw [if_pos ⟨hq, hc⟩, Port.raiseAll_cons, Port.raiseAll_nil, Port.raise_of_notHeld _ _ hverdict]
      by_cases hleak : (t.span j).verdict = .leak
      · simp [hleak]
      · simp [hc, hleak, Notice.key, NoticeBody.key]
  have hfree : NoticeKey.resolve q ∉ (v.port q).routine.map Notice.key := by
    rw [hfirst, List.mem_append, not_or]
    refine ⟨fun hm => hresolve (by rw [Port.keys, List.map_append]; exact List.mem_append_right _ hm), ?_⟩
    split <;> simp
  obtain ⟨ws, hws, he⟩ := routineKeys_raiseAll (v.port q) v.lineTime (hP q) hfree
  exact ⟨ws, hws, by rw [hxs.ports, he, hfirst]⟩

end

/-! The operations of a grant. -/

section
variable {s : State} {j : SpanId} {l : SpanLine} {st : StationId}

/-- A balance update tells of its verdict, and then of the samples (R94). -/
theorem raised_balanceUpdate (hl : (s.span j).line = some l) (c : Conversion) (m : Nat) :
    ∃ v ws, RaisedAs s v (v.verdictNotices j l (s.span j).verdict) ∧ WatchRaised v (s.balanceUpdate j l c m) ws ∧
      SamplesOnly v (s.balanceUpdate j l c m) := by
  have hline : (((s.drained j (drainQueue c.v (s.queue j))).setSpan j (s.updatedRecord j l c m)).span j).line = some l := by
    obtain ⟨-, -, -, -, -, -, -, -, -, -, -, h, -⟩ := updatedRecord_balance (s := s) (j := j) (l := l) c m rfl rfl
    rw [setSpan_span_same, h, hl]
  have hr := raisedAs_announceVerdict hline (s.span j).verdict
  have hspan := (noticesOnly_announceVerdict ((s.drained j (drainQueue c.v (s.queue j))).setSpan j (s.updatedRecord j l c m))
    j (s.span j).verdict).span_eq j
  rw [← verdictNotices_congr hspan] at hr
  obtain ⟨ws, hws⟩ := watchRaised_offerAll (((s.drained j (drainQueue c.v (s.queue j))).setSpan j
    (s.updatedRecord j l c m)).announceVerdict j (s.span j).verdict) (s.updateOffers j l c m)
  exact ⟨_, ws, hr.after rfl rfl, hws, samplesOnly_offerAll _ _⟩

/-- The removal of a head raises the RESOLVE notice of the next, if it converts AWAITING, and then WATCH notices (R39). -/
theorem raised_removeHead (s : State) (st : StationId) : RaisesOnly AfterVerdict s (s.removeHead st) := by
  by_cases h : ∃ r c, (s.station st).nextAwaits r c
  · obtain ⟨r, c, hr⟩ := h
    obtain ⟨y, hy⟩ := removeHead_of_awaits hr
    obtain ⟨u, ws, hu, hws⟩ := raisedAs_raiseResolve (s.setStation st y) st r c
    rw [hy]
    refine RaisesOnly.trans ⟨_, hu.after rfl rfl, fun q x hx => ?_⟩ hws.afterVerdict
    by_cases hq : q = st
    · rw [if_pos hq, List.mem_singleton] at hx
      subst hx hq
      exact .inr ⟨rfl, rfl⟩
    · rw [if_neg hq] at hx
      cases hx
  · obtain ⟨y, hy⟩ := removeHead_of_not_awaits (s := s) (st := st) fun r c hr => h ⟨r, c, hr⟩
    rw [hy]
    exact .of_ports rfl rfl

end

end Sys2Proof.Machine

end

section
/-! GRANT: the head that leaves, the span that ends at its station updated, the span that starts there filled (R44 to R48): O24,
O25 and O26. -/

namespace Sys2Proof.Machine

/-! The two sides of the engine (R46). -/

section
variable {s : State} {st : StationId} {b : BankId} {c : Conversion} {m : Nat} {j : SpanId} {l : SpanLine}

theorem outflowSide_of_end (hj : j.downStation = st) (hl : (s.span j).line = some l) :
    s.outflowSide st c m = if (s.span j).state = .opened then s.balanceUpdate j l c m else s := by
  simp only [State.outflowSide, endingAt_eq_some_iff.2 hj.symm, hl]

theorem inflowSide_of_feed (hf : s.spanFedBy st = some j) (hl : (s.span j).line = some l) :
    s.inflowSide st b c m = if (s.span j).state = .opened then s.inflowTo j l st b c m else s := by
  simp only [State.inflowSide, hf, hl]

/-- The span at whose downstream end a station stands, where no span ends there. -/
theorem outflowSide_of_absent (h : ∀ j, j.downStation = st → (s.span j).line = none) : s.outflowSide st c m = s := by
  obtain he | ⟨j, l, hj, hl, -⟩ := outflowSide_cases s st c m
  · exact he
  · rw [h j (endingAt_eq_some_iff.1 hj).symm] at hl
    cases hl

theorem spanFedBy_eq_some {k : SpanId} (h : s.spanFedBy st = some k) : ∃ l, (s.span k).line = some l ∧ l.upstream = st := by
  have hfeeds := List.find?_some h
  unfold State.feeds at hfeeds
  split at hfeeds
  · cases hfeeds
  · exact ⟨_, by assumption, by simpa using hfeeds⟩

theorem inflowSide_of_absent (h : ∀ j l, (s.span j).line = some l → l.upstream ≠ st) : s.inflowSide st b c m = s := by
  obtain he | ⟨j, l, hf, -⟩ := inflowSide_cases s st b c m
  · exact he
  · obtain ⟨l', hl', hu⟩ := spanFedBy_eq_some hf
    exact absurd hu (h j l' hl')

/-- The engine keeps every span's state and hold. -/
theorem outflowSide_kept (s : State) (st : StationId) (c : Conversion) (m : Nat) (i : SpanId) :
    ((s.outflowSide st c m).span i).state = (s.span i).state ∧ ((s.outflowSide st c m).span i).hold = (s.span i).hold := by
  obtain he | ⟨j, l, -, -, -, he⟩ := outflowSide_cases s st c m <;> rw [he]
  · exact ⟨rfl, rfl⟩
  · rw [balanceUpdate_span]
    by_cases hi : i = j
    · subst hi
      obtain ⟨-, -, -, -, -, -, -, -, -, -, -, -, hstate, hhold⟩ :=
        updatedRecord_balance (s := s) (j := i) (l := l) c m rfl rfl
      rw [if_pos rfl]
      exact ⟨hstate, hhold⟩
    · rw [if_neg hi]
      exact ⟨rfl, rfl⟩

theorem inflowSide_kept (s : State) (st : StationId) (b : BankId) (c : Conversion) (m : Nat) (i : SpanId) :
    ((s.inflowSide st b c m).span i).state = (s.span i).state ∧ ((s.inflowSide st b c m).span i).hold = (s.span i).hold := by
  obtain he | ⟨j, l, -, -, -, he⟩ := inflowSide_cases s st b c m <;> rw [he]
  · exact ⟨rfl, rfl⟩
  · rw [inflowTo_span]
    by_cases hi : i = j
    · subst hi
      rw [if_pos rfl]
      split <;> exact ⟨rfl, rfl⟩
    · rw [if_neg hi]
      exact ⟨rfl, rfl⟩

theorem watchRaised_inflowSide (s : State) (st : StationId) (b : BankId) (c : Conversion) (m : Nat) :
    ∃ ws, WatchRaised s (s.inflowSide st b c m) ws := by
  obtain he | ⟨j, l, -, -, -, he⟩ := inflowSide_cases s st b c m <;> rw [he]
  · exact ⟨_, .of_ports rfl rfl⟩
  · exact watchRaised_inflowTo

/-- A notice of another kind than RESOLVE. -/
def BesideResolve (_ : PortId) (x : NoticeBody × Bool) : Prop := ∀ p, x.1.key ≠ .resolve p

theorem WatchRaised.besideResolve {t : State} {ws : PortId → List (NoticeBody × Bool)} (h : WatchRaised s t ws) :
    RaisesOnly BesideResolve s t := by
  refine ⟨ws, h.raised, fun q x hx p => ?_⟩
  obtain ⟨i, v, rfl⟩ := h.watch q x hx
  simp [NoticeBody.key]

theorem raised_outflowSide (s : State) (st : StationId) (c : Conversion) (m : Nat) :
    RaisesOnly BesideResolve s (s.outflowSide st c m) := by
  obtain he | ⟨j, l, -, hl, -, he⟩ := outflowSide_cases s st c m <;> rw [he]
  · exact .of_ports rfl rfl
  · obtain ⟨v, ws, hv, hws, -⟩ := raised_balanceUpdate hl c m
    refine RaisesOnly.trans ⟨_, hv, fun q x hx p => ?_⟩ hws.besideResolve
    unfold State.verdictNotices at hx
    split at hx
    · rw [List.mem_singleton.1 hx]
      simp [NoticeBody.key]
    · cases hx

end

/-! The run of a grant. -/

section
variable {s : State} {p : PortId} {r : Reading} {c : Conversion} {m : Nat}

/-- The state that a granted reading's outflow side leaves (R46). -/
def State.grantUpdated (s : State) (p : PortId) (c : Conversion) (m : Nat) : State :=
  State.outflowSide { s with lastGranted := some p } p c m

/-- The state that its inflow side leaves then. -/
def State.grantFilled (s : State) (p : PortId) (b : BankId) (c : Conversion) (m : Nat) : State :=
  (s.grantUpdated p c m).inflowSide p b c m

theorem applyGrant_eq (s : State) (p : PortId) (r : Reading) (c : Conversion) (m : Nat) :
    s.applyGrant p r c m = (s.grantFilled p r.bank c m).removeHead p := rfl

theorem grantFilled_engineOnly (s : State) (p : PortId) (r : Reading) (c : Conversion) (m : Nat) :
    EngineOnly { s with lastGranted := some p } (s.grantFilled p r.bank c m) := applyGrant_engineOnly p r c m

theorem removeHead_samplesOnly (s : State) (st : StationId) : SamplesOnly
    (s.setStation st ((s.station st).headDropped.headConverted (expiryAfter s.lineTime s.tRes))) (s.removeHead st) := by
  have h := convertHead_samplesOnly_headConverted (s.setStation st (s.station st).headDropped) st
  rw [setStation_station_same, setStation_setStation] at h
  exact h

theorem removeHead_sameEngine (s : State) (st : StationId) : SameEngine s (s.removeHead st) :=
  have h0 : SameEngine s (s.setStation st ((s.station st).headDropped.headConverted (expiryAfter s.lineTime s.tRes))) :=
    ⟨rfl, rfl, rfl, rfl, rfl⟩
  h0.trans (removeHead_samplesOnly s st).sameEngine

theorem removeHead_station (s : State) (st : StationId) : (s.removeHead st).station st =
    (s.station st).headDropped.headConverted (expiryAfter s.lineTime s.tRes) := by
  rw [(removeHead_samplesOnly s st).engineOnly.station_eq, setStation_station_same]

theorem removeHead_station_ne (s : State) {st x : StationId} (h : x ≠ st) : (s.removeHead st).station x = s.station x := by
  rw [(removeHead_samplesOnly s st).engineOnly.station_eq, setStation_station_ne _ _ _ h]

/-- The granted station's port is told of the resolve that its next head raises (R39). -/
theorem applyGrant_told {x : Reading} {cx : Conversion} (h : (s.station p).nextAwaits x cx) :
    (s.port p).tells ((s.applyGrant p r c m).port p) (.resolve p x.tag cx.cls x.rhoM cx.v x.bank) true := by
  obtain ⟨ws, hws⟩ := watchRaised_inflowSide (s.grantUpdated p c m) p r.bank c m
  obtain ⟨xs, hxs, hP⟩ := (raised_outflowSide { s with lastGranted := some p } p c m).trans hws.besideResolve
  have hstation : (s.grantFilled p r.bank c m).station p = s.station p := (grantFilled_engineOnly s p r c m).station_eq p
  rw [← hstation] at h
  obtain ⟨y, hy⟩ := removeHead_of_awaits h
  obtain ⟨u, vs, hu, hvs⟩ := raisedAs_raiseResolve ((s.grantFilled p r.bank c m).setStation p y) p x cx
  have hall := (hxs.trans (hu.after (s := s.grantFilled p r.bank c m) rfl rfl)).trans hvs.raised
  rw [← hy, ← applyGrant_eq] at hall
  have hnone : (xs p).filter (fun n => n.1.key == NoticeKey.resolve p) = [] :=
    List.filter_eq_nil_iff.2 fun n hn hk => hP p n hn p (by simpa using hk)
  have htell := (hall.after (s := s) rfl rfl).noticesAs (.refl s) (.refl _)
  refine htell.tells (q := p) ?_ (by simp)
  rw [List.filter_append, List.filter_append, NoticeBody.key, hnone, hvs.filter_key p rfl]
  simp [NoticeBody.key]

end

end Sys2Proof.Machine

end

section
/-! What a grant leaves, in the words of R44 to R48: O24, O25 and O26. -/

namespace Sys2Proof.Machine

section
variable {s : State} {p : PortId} {r : Reading} {c : Conversion} {m : Nat} {j k g : SpanId} {l : SpanLine}

theorem segmentLeaving_upStation (g : SegId) : segmentLeaving g.upStation = g := by cases g <;> rfl

theorem line_first (ht : s.topologyHolds) (hl : (s.span j).line = some l) (hg : g.upStation = l.upstream) : l.first = g := by
  obtain ⟨-, rfl⟩ := line_of_topology ht hl
  show segmentLeaving (s.upstreamEnd j) = g
  rw [← segmentLeaving_upStation g, hg]
  rfl

theorem line_last (ht : s.topologyHolds) (hl : (s.span j).line = some l) : l.last = j := by
  obtain ⟨-, rfl⟩ := line_of_topology ht hl
  rfl

/-! The two sides in the words of the statements. -/

/-- The outflow side of the station where a span ends (R47). -/
theorem outflowSide_updates (ht : s.topologyHolds) (hj : j.downStation = p) (hl : (s.span j).line = some l) :
    ∃ outs, ((s.span j).state = .opened → s.updatedBy (s.outflowSide p c m) j l c m outs) ∧
      ((s.span j).state ≠ .opened → SameEngine s (s.outflowSide p c m) ∧ outs = []) ∧
      OfferedTo s (s.outflowSide p c m) outs := by
  rw [outflowSide_of_end hj hl]
  by_cases h : (s.span j).state = .opened
  · simp only [if_pos h]
    exact ⟨_, fun _ => updatedBy_balanceUpdate c m hl (line_last ht hl), absurd h, offeredTo_balanceUpdate s j l c m⟩
  · simp only [if_neg h]
    exact ⟨[], fun ho => absurd ho h, fun _ => ⟨.refl s, rfl⟩, .of_watches rfl⟩

/-- The inflow side of the station where a span starts (R48). -/
theorem inflowSide_fills (ht : s.topologyHolds) (hl : (s.span k).line = some l) (hu : l.upstream = p) (hg : g.upStation = p)
    (b : BankId) :
    ∃ ins, ((s.span k).state = .opened → s.filledBy (s.inflowSide p b c m) k g p b c m ins) ∧
      ((s.span k).state ≠ .opened → SameEngine s (s.inflowSide p b c m) ∧ ins = []) ∧
      OfferedTo s (s.inflowSide p b c m) ins := by
  have hf : s.spanFedBy p = some k := hu ▸ spanFedBy_eq ht hl
  rw [inflowSide_of_feed hf hl]
  by_cases h : (s.span k).state = .opened
  · simp only [if_pos h]
    exact ⟨_, fun _ => filledBy_inflowTo (line_first ht hl (hg.trans hu.symm)), absurd h, offeredTo_inflowTo⟩
  · simp only [if_neg h]
    exact ⟨[], fun ho => absurd ho h, fun _ => ⟨.refl s, rfl⟩, .of_watches rfl⟩

/-- The outflow side begins with the VERDICT notice of the span that ends there, where it is due. -/
theorem outflowSide_verdict (hj : j.downStation = p) (hl : (s.span j).line = some l) :
    ∃ v, RaisedAs s v (v.verdictNotices j l (s.span j).verdict) ∧ RaisesOnly AfterVerdict v (s.outflowSide p c m) ∧
      (s.outflowSide p c m).span j = v.span j := by
  rw [outflowSide_of_end hj hl]
  split
  · obtain ⟨v, ws, hv, hws, hsame⟩ := raised_balanceUpdate hl c m
    exact ⟨v, hv, hws.afterVerdict, hsame.span_eq j⟩
  · refine ⟨s, (RaisedAs.of_ports rfl rfl).congr fun q => ?_, .of_ports rfl rfl, rfl⟩
    rw [State.verdictNotices, if_neg (by simp)]

/-- No span starts at the tail. -/
theorem upstream_ne_of_tail (ht : s.topologyHolds) (hp : p.val + 1 = s.n) (hl : (s.span j).line = some l) :
    l.upstream ≠ p := by
  rintro rfl
  have := line_bounds ht hl
  omega

/-- No span starts or ends at an interior station that is not IN_SERVICE (R10). -/
theorem no_span_at_interior (ht : s.topologyHolds) (h0 : 0 < p.val) (hn : p.val + 1 < s.n) (hout : s.inService p = false) :
    (∀ j, j.downStation = p → (s.span j).line = none) ∧ ∀ j l, (s.span j).line = some l → l.upstream ≠ p := by
  obtain ⟨k, -, -, hk, -, -, hnone, -, -, hnum⟩ := interior_inside ht h0 hn hout
  refine ⟨fun j hj => ?_, fun j l hl hu => ?_⟩
  · have hkj : SegId.endingAt p = some j := endingAt_eq_some_iff.2 hj.symm
    obtain rfl : k = j := Option.some.inj (hk.symm.trans hkj)
    exact hnone
  · obtain ⟨-, rfl⟩ := line_of_topology ht hl
    have hend : s.isSpanEnd k = true := isSpanEnd_of_upstreamEnd (j := j) (hnum.trans (congrArg Fin.val hu).symm)
    rw [line_of_isSpanEnd ht hend] at hnone
    cases hnone

/-! The whole grant. -/

theorem granted_sameEngine (s : State) (p : PortId) : SameEngine s { s with lastGranted := some p } :=
  ⟨rfl, rfl, rfl, rfl, rfl⟩

theorem granted_topologyHolds (ht : s.topologyHolds) (p : PortId) :
    State.topologyHolds { s with lastGranted := some p } :=
  (LineKept.of_fields (s := s) rfl rfl rfl rfl rfl).topologyHolds ht

theorem applyGrant_sameEngine (s : State) (p : PortId) (r : Reading) (c : Conversion) (m : Nat) :
    SameEngine (s.grantFilled p r.bank c m) (s.applyGrant p r c m) := removeHead_sameEngine _ _

theorem grantUpdated_lineKept (s : State) (p : PortId) (c : Conversion) (m : Nat) : LineKept s (s.grantUpdated p c m) :=
  (LineKept.of_fields (s := s) (t := { s with lastGranted := some p }) rfl rfl rfl rfl rfl).trans
    (lineKept_outflowSide p c m)

theorem grantUpdated_engineOnly (s : State) (p : PortId) (c : Conversion) (m : Nat) :
    EngineOnly { s with lastGranted := some p } (s.grantUpdated p c m) := engineOnly_outflowSide p c m

theorem applyGrant_offered {xs ys : List Sample} (hx : OfferedTo { s with lastGranted := some p } (s.grantUpdated p c m) xs)
    (hy : OfferedTo (s.grantUpdated p c m) (s.grantFilled p r.bank c m) ys) :
    s.offered (s.applyGrant p r c m) (xs ++ ys ++ (s.station p).resolveOffers p) := by
  have h0 : OfferedTo s { s with lastGranted := some p } [] := .of_watches rfl
  have hstation : (s.grantFilled p r.bank c m).station p = s.station p := (grantFilled_engineOnly s p r c m).station_eq p
  have hr := offeredTo_removeHead (s.grantFilled p r.bank c m) p
  rw [hstation] at hr
  exact (((h0.trans hx).trans hy).trans hr).offered

/-- The verdict of the span that ends at the granted station is told before the WATCH notices of its samples (R94, R126). -/
theorem applyGrant_verdict (hj : j.downStation = p) (hl : (s.span j).line = some l)
    (hkept : (s.grantFilled p r.bank c m).span j = (s.grantUpdated p c m).span j) :
    s.verdictTold (s.applyGrant p r c m) j l (s.span j).verdict ∧ s.verdictBeforeWatch (s.applyGrant p r c m) j l := by
  obtain ⟨v, hv, hafter, hspan⟩ := outflowSide_verdict (s := { s with lastGranted := some p }) (c := c) (m := m) hj hl
  obtain ⟨ws, hws⟩ := watchRaised_inflowSide (s.grantUpdated p c m) p r.bank c m
  have hall : RaisesOnly AfterVerdict v (s.applyGrant p r c m) :=
    (hafter.trans hws.afterVerdict).trans (raised_removeHead (s.grantFilled p r.bank c m) p)
  have hsame : (s.applyGrant p r c m).span j = v.span j :=
    ((applyGrant_sameEngine s p r c m).span_eq j).trans (hkept.trans hspan)
  have hfirst : RaisedAs s v (v.verdictNotices j l (s.span j).verdict) := hv.after rfl rfl
  exact ⟨verdictTold_of_first hfirst hall hsame, verdictBeforeWatch_of_first hfirst hall hsame⟩

/-- The granted head leaves its station; the others, the set-up, the segments, the links and every span's place, state and hold
stand (R45). -/
theorem applyGrant_takesHead (s : State) (p : PortId) (r : Reading) (c : Conversion) (m : Nat) :
    (s.applyGrant p r c m).lastGranted = some p ∧
      (s.applyGrant p r c m).station p = (s.station p).headDropped.headConverted (expiryAfter s.lineTime s.tRes) ∧
      (∀ q, q ≠ p → (s.applyGrant p r c m).station q = s.station q) ∧ s.sameSetUp (s.applyGrant p r c m) ∧
      s.sameSegments (s.applyGrant p r c m) ∧ s.sameLinks (s.applyGrant p r c m) ∧
      ∀ i, ((s.applyGrant p r c m).span i).line = (s.span i).line ∧
        ((s.applyGrant p r c m).span i).state = (s.span i).state ∧
        ((s.applyGrant p r c m).span i).hold = (s.span i).hold := by
  have hfilled := grantFilled_engineOnly s p r c m
  have hremoved := (removeHead_samplesOnly (s.grantFilled p r.bank c m) p).engineOnly
  have hsame := applyGrant_sameEngine s p r c m
  have hsetUp : s.sameSetUp (s.grantFilled p r.bank c m) := hfilled.sameSetUp
  have hsetUp' : (s.grantFilled p r.bank c m).sameSetUp (s.applyGrant p r c m) := hremoved.sameSetUp
  obtain ⟨-, -, hline, -, hres, -⟩ := hsetUp
  refine ⟨?_, ?_, fun q hq => ?_, State.sameSetUp_trans hfilled.sameSetUp hsetUp', fun i => ?_, fun q => ?_, fun i => ?_⟩
  · obtain ⟨-, -, hg⟩ := hfilled.same
    obtain ⟨-, -, hg'⟩ := hremoved.same
    exact hg'.trans hg
  · rw [applyGrant_eq, removeHead_station, hfilled.station_eq, hline, hres]
    rfl
  · rw [applyGrant_eq, removeHead_station_ne _ hq, hfilled.station_eq]
    rfl
  · exact (hsame.segment_eq i).trans (hfilled.segment_eq i)
  · exact (hremoved.sameLinks q).trans (hfilled.sameLinks q)
  · obtain ⟨hs, hh⟩ := inflowSide_kept (s.grantUpdated p c m) p r.bank c m i
    obtain ⟨hs', hh'⟩ := outflowSide_kept { s with lastGranted := some p } p c m i
    rw [hsame.span_eq i]
    exact ⟨((grantUpdated_lineKept s p c m).trans (lineKept_inflowSide p r.bank c m)).lines i, hs.trans hs', hh.trans hh'⟩

end

end Sys2Proof.Machine

end

section
/-! The grants settled: O24, O25 and O26. -/

namespace Sys2Proof.Machine

section
variable {s : State} {p : PortId} {r : Reading} {c : Conversion} {m : Nat} {j k g : SpanId} {l lj lk : SpanLine}

/-- A grant that reaches no span (R46). -/
theorem applyGrant_reachesNone (hout : State.outflowSide { s with lastGranted := some p } p c m =
      { s with lastGranted := some p })
    (hin : State.inflowSide { s with lastGranted := some p } p r.bank c m = { s with lastGranted := some p }) :
    s.sameSpans (s.applyGrant p r c m) ∧ s.sameStore (s.applyGrant p r c m) ∧
      s.offered (s.applyGrant p r c m) ((s.station p).resolveOffers p) := by
  have hu : s.grantUpdated p c m = { s with lastGranted := some p } := hout
  have hv : s.grantFilled p r.bank c m = { s with lastGranted := some p } := by rw [State.grantFilled, hu, hin]
  have hsame : SameEngine s (s.applyGrant p r c m) :=
    (granted_sameEngine s p).trans (hv ▸ applyGrant_sameEngine s p r c m)
  refine ⟨hsame.sameSpans, hsame.sameStore, ?_⟩
  exact applyGrant_offered (xs := []) (ys := []) (.of_watches (by rw [hu])) (.of_watches (by rw [hu, hv]))

/-- A grant at an interior station between two spans: the update, and then the inflow into the store that it left (R46). -/
theorem applyGrant_interior (ht : s.topologyHolds) (hj : j.downStation = p) (hlj : (s.span j).line = some lj)
    (hlk : (s.span k).line = some lk) (hu : lk.upstream = p) (hg : g.upStation = p) :
    ∃ outs ins, (if (s.span j).state = .opened then s.updatedBy (s.grantUpdated p c m) j lj c m outs
        else s.sameSpans (s.grantUpdated p c m) ∧ s.sameStore (s.grantUpdated p c m) ∧ outs = []) ∧
      (if (s.span k).state = .opened then (s.grantUpdated p c m).filledBy (s.applyGrant p r c m) k g p r.bank c m ins
        else (s.grantUpdated p c m).sameSpans (s.applyGrant p r c m) ∧
          (s.grantUpdated p c m).sameStore (s.applyGrant p r c m) ∧ ins = []) ∧
      s.offered (s.applyGrant p r c m) (outs ++ ins ++ (s.station p).resolveOffers p) ∧
      s.verdictTold (s.applyGrant p r c m) j lj (s.span j).verdict ∧ s.verdictBeforeWatch (s.applyGrant p r c m) j lj := by
  have hkept := grantUpdated_lineKept s p c m
  obtain ⟨outs, hupdated, hkeptOut, houts⟩ := outflowSide_updates (granted_topologyHolds ht p) (c := c) (m := m) hj hlj
  obtain ⟨ins, hfilled, hkeptIn, hins⟩ := inflowSide_fills (hkept.topologyHolds ht) (c := c) (m := m)
    ((hkept.lines k).trans hlk) hu hg r.bank
  obtain ⟨hstate, -⟩ := outflowSide_kept { s with lastGranted := some p } p c m k
  have hstate' : ((s.grantUpdated p c m).span k).state = (s.span k).state := hstate
  rw [hstate'] at hfilled hkeptIn
  have hsame := applyGrant_sameEngine s p r c m
  have hne : j ≠ k := by
    rintro rfl
    have hb := line_bounds ht hlk
    rw [hu, ← hj, downStation_val] at hb
    omega
  have hspan : (s.grantFilled p r.bank c m).span j = (s.grantUpdated p c m).span j := by
    by_cases h : (s.span k).state = .opened
    · obtain ⟨hother, -⟩ := hfilled h
      exact hother j hne
    · exact (hkeptIn h).1.span_eq j
  obtain ⟨htold, hbefore⟩ := applyGrant_verdict (r := r) hj hlj hspan
  refine ⟨outs, ins, ?_, ?_, applyGrant_offered houts hins, htold, hbefore⟩
  · split
    case isTrue h => exact SameEngine.updatedBy (granted_sameEngine s p).symm (.refl _) (hupdated h)
    case isFalse h =>
      obtain ⟨hs, hnone⟩ := hkeptOut h
      have hs' : SameEngine s (s.grantUpdated p c m) := (granted_sameEngine s p).trans hs
      exact ⟨hs'.sameSpans, hs'.sameStore, hnone⟩
  · split
    case isTrue h => exact SameEngine.filledBy (.refl _) hsame (hfilled h)
    case isFalse h =>
      obtain ⟨hs, hnone⟩ := hkeptIn h
      have hs' : SameEngine (s.grantUpdated p c m) (s.applyGrant p r c m) := hs.trans hsame
      exact ⟨hs'.sameSpans, hs'.sameStore, hnone⟩

end

end Sys2Proof.Machine

open Sys2Proof Sys2Proof.Machine

/-- Settles O24: the head leaves; no span is reached from an interior station that is not IN_SERVICE, and from another the one
behind it is updated and then the one before it filled. -/
theorem grantFollowsRotation : Obligations.GrantFollowsRotation := by
  unfold Obligations.GrantFollowsRotation
  refine ⟨fun s p r c m h => ?_, fun s p r c m h ht h0 hn hout => ?_, fun s p r c m j k g lj lk h ht _ _ _ hj hlj hlk hu hg => ?_⟩
  · obtain ⟨hlast, hstation, hothers, hsetUp, hsegments, hlinks, hspans⟩ := applyGrant_takesHead s p r c m
    refine ⟨_, exec_grant_of_grantsTo h, hlast, ?_, fun x cx hx => ⟨?_, applyGrant_told hx⟩, fun hx => ?_, hothers, hsetUp,
      hsegments, hlinks, hspans⟩ <;> rw [hstation]
    · exact headRemoved_headConverted _ _
    · exact headConverted_resolve_of_awaits hx
    · exact headConverted_resolve_of_not_awaits hx
  · obtain ⟨hends, hstarts⟩ := no_span_at_interior ht h0 hn hout
    exact ⟨_, exec_grant_of_grantsTo h, applyGrant_reachesNone (outflowSide_of_absent hends) (inflowSide_of_absent hstarts)⟩
  · obtain ⟨outs, ins, hrest⟩ := applyGrant_interior (c := c) (m := m) (r := r) ht hj hlj hlk hu hg
    have heng := grantUpdated_engineOnly s p c m
    exact ⟨_, _, outs, ins, exec_grant_of_grantsTo h, heng.sameSetUp, heng.segment_eq, hrest⟩

/-- Settles O25: at the tail, one balance update and no inflow. -/
theorem tailGrantUpdatesSpan : Obligations.TailGrantUpdatesSpan := by
  unfold Obligations.TailGrantUpdatesSpan
  intro s p r c m j l h ht hp _ hj hl
  have hfilled : s.grantFilled p r.bank c m = s.grantUpdated p c m :=
    inflowSide_of_absent fun i li hli => by
      rw [(grantUpdated_lineKept s p c m).lines] at hli
      exact upstream_ne_of_tail ht hp hli
  have hsame : SameEngine (s.grantUpdated p c m) (s.applyGrant p r c m) := hfilled ▸ applyGrant_sameEngine s p r c m
  obtain ⟨outs, hupdated, hkept, houts⟩ := outflowSide_updates (granted_topologyHolds ht p) (c := c) (m := m) hj hl
  have hoffered := applyGrant_offered (r := r) (ys := []) houts (.of_watches (by rw [hfilled]))
  rw [List.append_nil] at hoffered
  refine ⟨_, exec_grant_of_grantsTo h, fun hopen => ⟨outs, ?_, hoffered, applyGrant_verdict hj hl (by rw [hfilled])⟩,
    fun hclosed => ?_⟩
  · exact SameEngine.updatedBy (granted_sameEngine s p).symm hsame (hupdated hopen)
  · obtain ⟨hs, rfl⟩ := hkept hclosed
    have hs' : SameEngine s (s.applyGrant p r c m) := ((granted_sameEngine s p).trans hs).trans hsame
    exact ⟨hs'.sameSpans, hs'.sameStore, hoffered⟩

/-- Settles O26: at the head, one inflow and no update. -/
theorem headGrantFillsSpan : Obligations.HeadGrantFillsSpan := by
  unfold Obligations.HeadGrantFillsSpan
  intro s r c m j l h ht hl hu
  have hnone : OfferedTo { s with lastGranted := some (0 : PortId) } (s.grantUpdated 0 c m) [] := .of_watches rfl
  obtain ⟨ins, hfilled, hkept, hins⟩ := inflowSide_fills (granted_topologyHolds ht 0) (c := c) (m := m) (g := .one) hl hu rfl r.bank
  have hsame := applyGrant_sameEngine s 0 r c m
  have hoffered := applyGrant_offered (r := r) hnone hins
  refine ⟨_, exec_grant_of_grantsTo h, fun hopen => ⟨ins, ?_, hoffered⟩, fun hclosed => ?_⟩
  · exact SameEngine.filledBy (granted_sameEngine s 0).symm hsame (hfilled hopen)
  · obtain ⟨hs, rfl⟩ := hkept hclosed
    have hs' : SameEngine s (s.applyGrant 0 r c m) := ((granted_sameEngine s 0).trans hs).trans hsame
    exact ⟨hs'.sameSpans, hs'.sameStore, hoffered⟩

end

section
/-! The fields of an image by their offsets, and the image check bit by bit (R182, R186, R190). -/

namespace Sys2Proof.Machine

/-! Fields by offset. -/

/-- The byte of an image at an offset, as a number. -/
def byteAt (img : List Byte) (i : Nat) : Nat := (img.getD i 0).toNat

/-- The two-byte field of an image at an offset. -/
def wordAt (img : List Byte) (i : Nat) : Nat := byteAt img i + 256 * byteAt img (i + 1)

/-- The four-byte field of an image at an offset. -/
def longAt (img : List Byte) (i : Nat) : Nat := wordAt img i + 65536 * wordAt img (i + 2)

section
variable (img : List Byte) (o : Nat)

theorem byteAt_lt : byteAt img o < 256 := (img.getD o 0).isLt

/-- A run of bytes from an offset, past the end of the image too: a byte that is not there counts as 0. -/
theorem leNat_drop_take_succ (n : Nat) :
    leNat ((img.drop o).take (n + 1)) = byteAt img o + 256 * leNat ((img.drop (o + 1)).take n) := by
  by_cases h : o < img.length
  · rw [List.drop_eq_getElem_cons h, List.take_succ_cons, leNat, byteAt, List.getD_eq_getElem _ _ h]
  · rw [List.drop_eq_nil_of_le (by omega), List.drop_eq_nil_of_le (by omega), byteAt, List.getD_eq_default _ _ (by omega),
      List.take_nil, List.take_nil]
    rfl

theorem leNat_byte : leNat ((img.drop o).take 1) = byteAt img o := by
  rw [leNat_drop_take_succ, List.take_zero]
  rfl

theorem leNat_word : leNat ((img.drop o).take 2) = wordAt img o := by
  rw [leNat_drop_take_succ, leNat_byte, wordAt]

theorem leNat_long : leNat ((img.drop o).take 4) = longAt img o := by
  rw [leNat_drop_take_succ, leNat_drop_take_succ, leNat_word]
  simp only [longAt, wordAt]
  ring

theorem fieldAt_byte_toNat : (fieldAt 8 img o 1).toNat = byteAt img o := by
  rw [fieldAt, leNat_byte, BitVec.toNat_ofNat]
  exact Nat.mod_eq_of_lt (byteAt_lt img o)

theorem wordAt_lt : wordAt img o < 2 ^ 16 := by
  have h0 := byteAt_lt img o
  have h1 := byteAt_lt img (o + 1)
  rw [wordAt]
  omega

theorem longAt_lt : longAt img o < 2 ^ 32 := by
  have h0 := wordAt_lt img o
  have h1 := wordAt_lt img (o + 2)
  rw [longAt]
  omega

theorem fieldAt_word_toNat : (fieldAt 16 img o 2).toNat = wordAt img o := by
  rw [fieldAt, leNat_word, BitVec.toNat_ofNat]
  exact Nat.mod_eq_of_lt (wordAt_lt img o)

theorem fieldAt_long_toNat : (fieldAt 32 img o 4).toNat = longAt img o := by
  rw [fieldAt, leNat_long, BitVec.toNat_ofNat]
  exact Nat.mod_eq_of_lt (longAt_lt img o)

end

/-! The records of an image. -/

section
variable (img : List Byte)

theorem imageSettings_eq {k : SegId} {o : Nat} (ho : o = 15 + 22 * (k.num - 1)) : imageSettings img k =
    ⟨wordAt img o, wordAt img (o + 2), wordAt img (o + 4), longAt img (o + 6), longAt img (o + 10), longAt img (o + 14),
      wordAt img (o + 18), byteAt img (o + 20), byteAt img (o + 21)⟩ := by
  subst ho
  simp only [imageSettings, settingsOf, settingsAt, fieldAt_byte_toNat, fieldAt_word_toNat, fieldAt_long_toNat]

theorem imageBank_eq {st : StationId} {b : BankId} {o : Nat} (ho : o = 81 + 40 * st.val + 10 * b.val) : imageBank img st b =
    if (990 ≤ wordAt img o ∧ wordAt img o ≤ 1100) ∧ (2000 ≤ wordAt img (o + 2) ∧ wordAt img (o + 2) ≤ 4000) ∧
        wordAt img o + 500 ≤ wordAt img (o + 2) ∧ (50 ≤ wordAt img (o + 4) ∧ wordAt img (o + 4) ≤ 600) ∧
        byteAt img (o + 6) ≤ 50 ∧ (9000 ≤ wordAt img (o + 7) ∧ wordAt img (o + 7) ≤ 11000) ∧ byteAt img (o + 9) < 2 then
      some ⟨wordAt img o, wordAt img (o + 2), wordAt img (o + 4), byteAt img (o + 6), wordAt img (o + 7),
        if byteAt img (o + 9) = 0 then .refer else .limit⟩
    else none := by
  subst ho
  rw [imageBank, bankOf_eq]
  simp only [bankAt, fieldAt_byte_toNat, fieldAt_word_toNat]

theorem imageActive_eq (st : StationId) : imageActive img st =
    if h : byteAt img (241 + st.val) < 4 then some ⟨byteAt img (241 + st.val), h⟩ else none := by
  simp only [imageActive, index4, fieldAt_byte_toNat]

theorem linkRateOf_eq (b : Byte) : linkRateOf b =
    [LinkRate.r19200, .r38400, .r57600, .r115200, .r230400, .r460800, .r921600][b.toNat]? := by
  unfold linkRateOf
  generalize b.toNat = x
  match x with
  | 0 | 1 | 2 | 3 | 4 | 5 | 6 => rfl
  | _ + 7 => rfl

theorem imageRate_eq (p : PortId) : imageRate img p =
    [LinkRate.r19200, .r38400, .r57600, .r115200, .r230400, .r460800, .r921600][byteAt img (6 + p.val)]? := by
  rw [imageRate, linkRateOf_eq, fieldAt_byte_toNat]

theorem imageScalars_eq : imageN img = byteAt img 5 ∧ imageTStale img = byteAt img 10 ∧ imageTRes img = byteAt img 11 ∧
    imageTAgree img = wordAt img 12 ∧ imageTTrip img = byteAt img 14 :=
  ⟨leNat_byte img 5, leNat_byte img 10, leNat_byte img 11, leNat_word img 12, leNat_byte img 14⟩

end

/-! The image check, bit by bit (R182). -/

/-- One bit taken into the image check, least significant first. -/
def crc32Step (c : BitVec 32) (bit : Bool) : BitVec 32 :=
  if c.getLsbD 0 = bit then c >>> 1 else (c >>> 1) ^^^ (0x04C11DB7#32).reverse

/-- The check's polynomial, read from the other end. -/
theorem polynomial_reverse : (0x04C11DB7#32).reverse = 0xEDB88320#32 := by decide +kernel

/-- A shift of the check with data bits joined to it takes the lowest of them in and keeps the others joined. -/
theorem crc32Bit_xor (c x : BitVec 32) : crc32Bit (c ^^^ x) = crc32Step c (x.getLsbD 0) ^^^ (x >>> 1) := by
  unfold crc32Bit crc32Step
  rw [BitVec.getLsbD_xor, BitVec.ushiftRight_xor_distrib, polynomial_reverse]
  cases c.getLsbD 0 <;> cases x.getLsbD 0 <;> simp [BitVec.xor_assoc, BitVec.xor_comm (x >>> 1)]

/-- n shifts take the lowest n joined bits in. -/
theorem crc32Bit_repeat (c x : BitVec 32) (n : Nat) :
    Nat.repeat crc32Bit n (c ^^^ x) = ((List.range n).map x.getLsbD).foldl crc32Step c ^^^ (x >>> n) := by
  induction n with
  | zero => simp [Nat.repeat]
  | succ n ih =>
    rw [Nat.repeat, ih, crc32Bit_xor, BitVec.getLsbD_ushiftRight, ← BitVec.shiftRight_add]
    simp [List.range_succ]

theorem crc32Byte_eq (c : BitVec 32) (b : Byte) :
    crc32Byte c b = ((List.range 8).map b.getLsbD).foldl crc32Step c := by
  have hbits : (List.range 8).map (b.setWidth 32).getLsbD = (List.range 8).map b.getLsbD := by
    refine List.map_congr_left fun i hi => ?_
    have hi : i < 8 := List.mem_range.mp hi
    rw [BitVec.getLsbD_setWidth]
    simp only [show i < 32 by omega, decide_true, Bool.true_and]
  have hzero : b.setWidth 32 >>> 8 = 0#32 := by
    apply BitVec.eq_of_toNat_eq
    have := b.isLt
    simp only [BitVec.toNat_ushiftRight, BitVec.toNat_setWidth, Nat.shiftRight_eq_div_pow, BitVec.toNat_zero]
    omega
  rw [crc32Byte, crc32Bit_repeat, hbits, hzero, BitVec.xor_zero]

theorem crc32_eq_bits (bytes : List Byte) :
    crc32 bytes = ~~~ ((bytes.flatMap (fun b => (List.range 8).map b.getLsbD)).foldl crc32Step 0xFFFFFFFF#32) := by
  rw [List.foldl_flatMap]
  exact congrArg (fun f => ~~~ (bytes.foldl f 0xFFFFFFFF#32)) (funext fun c => funext fun b => crc32Byte_eq c b)

end Sys2Proof.Machine

end

section
/-! The nine checks of an image (R182). -/

namespace Sys2Proof.Machine

theorem allPorts_all_iff {f : PortId → Bool} : allPorts.all f = true ↔ ∀ p, f p = true :=
  ⟨fun h p => List.all_eq_true.1 h p (by fin_cases p <;> decide), fun h => List.all_eq_true.2 fun p _ => h p⟩

theorem allSegments_all_iff {f : SegId → Bool} : SegId.all.all f = true ↔ ∀ k, f k = true :=
  ⟨fun h k => List.all_eq_true.1 h k (by cases k <;> decide), fun h => List.all_eq_true.2 fun k _ => h k⟩

theorem guarded_iff {a b : Nat} {x : Bool} : (!decide (a < b) || x) = true ↔ (a < b → x = true) := by
  by_cases h : a < b <;> simp [h]

theorem timerFieldOk_iff {a b x : Nat} : timerFieldOk a b x = true ↔ x = 0 ∨ a ≤ x ∧ x ≤ b := by
  rw [timerFieldOk, Bool.or_eq_true, beq_iff_eq, within_iff]

section
variable {img : List Byte}

theorem stationBanksOk_iff {st : StationId} : stationBanksOk img st = true ↔ ∀ b, (imageBank img st b).isSome = true :=
  allPorts_all_iff

/-- The nine checks, each on its own. -/
theorem imageAccepted_iff_checks : imageAccepted img = true ↔
    img.take 4 = imageIdentifier ∧ (img.drop 4).take 1 = [1] ∧ crc32 (img.take 245) = fieldAt 32 img 245 4 ∧
      (2 ≤ imageN img ∧ imageN img ≤ 4) ∧ (∀ p, (imageRate img p).isSome = true) ∧
      (((timerFieldOk 5 255 (imageTStale img) = true ∧ timerFieldOk 1 60 (imageTRes img) = true) ∧
        timerFieldOk 10 600 (imageTAgree img) = true) ∧ timerFieldOk 1 120 (imageTTrip img) = true) ∧
      (∀ k : SegId, k.num < imageN img → (imageSettings img k).valid = true) ∧
      (∀ st : StationId, st.val < imageN img → ∀ b, (imageBank img st b).isSome = true) ∧
      ∀ st : StationId, st.val < imageN img → (imageActive img st).isSome = true := by
  simp only [imageAccepted, imageChecks, List.all_cons, List.all_nil, Bool.and_true, id, Bool.and_eq_true, beq_iff_eq,
    within_iff, allPorts_all_iff, allSegments_all_iff, guarded_iff, stationBanksOk_iff]

/-! Each check by the bytes it reads. -/

/-- Check 1. -/
theorem identifier_iff (h : 4 ≤ img.length) : img.take 4 = imageIdentifier ↔
    byteAt img 0 = 0x4B ∧ byteAt img 1 = 0x56 ∧ byteAt img 2 = 0x4A ∧ byteAt img 3 = 0x4C := by
  match img, h with
  | a :: b :: c :: d :: rest, _ => simp [imageIdentifier, byteAt, ← BitVec.toNat_inj]

/-- Check 2. -/
theorem format_iff (h : 5 ≤ img.length) : (img.drop 4).take 1 = [1] ↔ byteAt img 4 = 1 := by
  match img, h with
  | a :: b :: c :: d :: e :: rest, _ => simp [byteAt, ← BitVec.toNat_inj]

/-- Check 3. -/
theorem check_iff : crc32 (img.take 245) = fieldAt 32 img 245 4 ↔ (crc32 (img.take 245)).toNat =
    byteAt img 245 + 256 * byteAt img 246 + 65536 * byteAt img 247 + 16777216 * byteAt img 248 := by
  have h : longAt img 245 =
      byteAt img 245 + 256 * byteAt img 246 + 65536 * byteAt img 247 + 16777216 * byteAt img 248 := by
    simp only [longAt, wordAt]
    ring
  rw [← BitVec.toNat_inj, fieldAt_long_toNat, h]

/-- Check 5. -/
theorem rate_isSome_iff {p : PortId} : (imageRate img p).isSome = true ↔ byteAt img (6 + p.val) < 7 := by
  rw [imageRate_eq, Option.isSome_iff_ne_none, ne_eq, List.getElem?_eq_none_iff, not_le]
  rfl

/-- Check 6. -/
theorem timers_iff {a b c d : Nat} (ha : a < 256) : (((timerFieldOk 5 255 a = true ∧ timerFieldOk 1 60 b = true) ∧
      timerFieldOk 10 600 c = true) ∧ timerFieldOk 1 120 d = true) ↔
    (a = 0 ∨ 5 ≤ a) ∧ b ≤ 60 ∧ (c = 0 ∨ 10 ≤ c ∧ c ≤ 600) ∧ d ≤ 120 := by
  simp only [timerFieldOk_iff]
  omega

/-- Check 9. -/
theorem active_isSome_iff {st : StationId} : (imageActive img st).isSome = true ↔ byteAt img (241 + st.val) < 4 := by
  rw [imageActive_eq]
  by_cases h : byteAt img (241 + st.val) < 4
  · simp [h]
  · rw [dif_neg h]
    simpa using h

/-- An image of the size that is read is accepted exactly by the nine checks of its bytes (R182). -/
theorem imageAccepted_iff_bytes (h : img.length = 249) : imageAccepted img = true ↔
    (byteAt img 0 = 0x4B ∧ byteAt img 1 = 0x56 ∧ byteAt img 2 = 0x4A ∧ byteAt img 3 = 0x4C) ∧ byteAt img 4 = 1 ∧
      (crc32 (img.take 245)).toNat =
        byteAt img 245 + 256 * byteAt img 246 + 65536 * byteAt img 247 + 16777216 * byteAt img 248 ∧
      (2 ≤ byteAt img 5 ∧ byteAt img 5 ≤ 4) ∧ (∀ p : PortId, byteAt img (6 + p.val) < 7) ∧
      ((byteAt img 10 = 0 ∨ 5 ≤ byteAt img 10) ∧ byteAt img 11 ≤ 60 ∧
        (wordAt img 12 = 0 ∨ 10 ≤ wordAt img 12 ∧ wordAt img 12 ≤ 600) ∧ byteAt img 14 ≤ 120) ∧
      (∀ k : SegId, k.num < byteAt img 5 → (imageSettings img k).valid = true) ∧
      (∀ (st : StationId) (b : BankId), st.val < byteAt img 5 → imageBank img st b ≠ none) ∧
      ∀ st : StationId, st.val < byteAt img 5 → byteAt img (241 + st.val) < 4 := by
  obtain ⟨hn, hstale, hres, hagree, htrip⟩ := imageScalars_eq img
  have hbanks : (∀ st : StationId, st.val < byteAt img 5 → ∀ b, (imageBank img st b).isSome = true) ↔
      ∀ (st : StationId) (b : BankId), st.val < byteAt img 5 → imageBank img st b ≠ none := by
    simp only [Option.isSome_iff_ne_none]
    exact forall_congr' fun _ => forall_comm
  rw [imageAccepted_iff_checks, identifier_iff (by omega), format_iff (by omega), check_iff, hn, hstale, hres, hagree, htrip,
    timers_iff (byteAt_lt img 10), hbanks]
  simp only [rate_isSome_iff, active_isSome_iff]

end

end Sys2Proof.Machine

end

section
/-! What the end of the image read leaves, accepted and refused (R181 to R185): O3 and O4. -/

namespace Sys2Proof.Machine

section
variable {s : State} {img : List Byte} {j : SpanId} {l : SpanLine}

/-- A memory of just the bytes that are read is its own image (R181). -/
theorem imageRead_of_length (h : img.length = 249) : imageRead img = img := by
  have hanswer : serialAnswer imageReadCommand img = img := rfl
  have hsize : imageSize - img.length = 0 := by rw [h]; rfl
  rw [imageRead, hanswer, readBytes, hsize, List.take_of_length_le (by rw [h]; exact le_rfl)]
  simp

theorem exec_imageRead_of_accepted (hc : s.config = .loading) (hl : img.length = 249) (ha : imageAccepted img = true) :
    exec (.imageReadComplete img) s = .next (s.accept img) := by
  have hne : img.isEmpty = false := by cases img <;> [cases hl; rfl]
  show execImageReadComplete img s = _
  rw [execImageReadComplete, if_neg (by simp [hc]), memoryAccepted, imageRead_of_length hl, ha, hne]
  rfl

theorem exec_imageRead_of_refused (hc : s.config = .loading) (h : img = [] ∨ imageAccepted (imageRead img) = false) :
    exec (.imageReadComplete img) s = .next s.refuseImage := by
  have hm : memoryAccepted img = false := by
    obtain rfl | ha := h
    · rfl
    · rw [memoryAccepted, ha, Bool.and_false]
  show execImageReadComplete img s = _
  rw [execImageReadComplete, if_neg (by simp [hc]), hm]
  rfl

/-! An accepted image (R183). -/

/-- Every station of an accepted image is OUT with the image's banks and active bank. -/
theorem accept_configured (ha : imageAccepted img = true) {st : StationId} (hn : st.val < imageN img) :
    ((s.accept img).station st).service = .out ∧ ((s.accept img).station st).silence = none ∧
      (∀ b, imageBank img st b = some (((s.accept img).station st).banks.get b)) ∧
      imageActive img st = some ((s.accept img).station st).active := by
  obtain ⟨-, -, -, -, -, -, -, hbanks, hactive⟩ := imageAccepted_iff_checks.1 ha
  rw [accept_station, loaded_station, if_pos hn]
  refine ⟨rfl, rfl, fun b => ?_, ?_⟩
  · have hget : (imageBanks img st).get b = (imageBank img st b).getD Bank.zero := by fin_cases b <;> rfl
    obtain ⟨x, hx⟩ := Option.isSome_iff_exists.1 (hbanks st hn b)
    show imageBank img st b = some ((imageBanks img st).get b)
    rw [hget, hx]
    rfl
  · obtain ⟨b, hb⟩ := Option.isSome_iff_exists.1 (hactive st hn)
    rw [hb]
    rfl

theorem loaded_n (s : State) (img : List Byte) : (s.loaded img).n = imageN img := by
  rw [loaded_rest]
  rfl

/-- With every configured station OUT, only the tail is a span end (R10). -/
theorem loaded_isSpanEnd_iff : (s.loaded img).isSpanEnd j = true ↔ j.num + 1 = imageN img := by
  have hout : j.num + 1 < imageN img → (s.loaded img).inService j.downStation = false := fun h => by
    rw [State.inService, loaded_station, if_pos (by rw [downStation_val]; omega)]
    rfl
  rw [State.isSpanEnd, loaded_n, Bool.or_eq_true, beq_iff_eq, Bool.and_eq_true, decide_eq_true_iff]
  refine ⟨fun h => h.elim id fun ⟨hlt, hin⟩ => ?_, .inl⟩
  rw [hout hlt] at hin
  cases hin

theorem loaded_upstreamEnd (h : j.num + 1 = imageN img) : (s.loaded img).upstreamEnd j = 0 := by
  have hnot : ∀ i : SegId, i.num < j.num → (s.loaded img).isSpanEnd i = false := fun i hi => by
    rw [← Bool.not_eq_true, loaded_isSpanEnd_iff]
    omega
  cases j with
  | one => rfl
  | two => simp [State.upstreamEnd, hnot .one (by decide)]
  | three => simp [State.upstreamEnd, hnot .one (by decide), hnot .two (by decide)]

theorem accept_line_isSome_iff : ((s.accept img).span j).line.isSome = true ↔ j.num + 1 = imageN img := by
  rw [accept_span, ← loaded_isSpanEnd_iff (s := s)]
  unfold State.lineOf
  split <;> simp [*]

/-- The one span present covers every segment from station 0 (R11, R183). -/
theorem accept_line (hl : ((s.accept img).span j).line = some l) : l.upstream = 0 ∧ l.first = .one ∧ l.last = j ∧
    l.vSpan = ((([.one, .two, .three] : List SegId).filter (fun k => decide (k.num < imageN img))).map
      (fun k => ((s.accept img).segment k).vSeg)).sum ∧ (s.accept img).drawnFromSegments j l := by
  have hn : j.num + 1 = imageN img := (accept_line_isSome_iff (s := s)).1 (by rw [hl]; rfl)
  rw [accept_span] at hl
  have hdrawn : (s.accept img).drawnFromSegments j l := drawn_congr (fun k => accept_segment s img k) (lineOf_drawn hl)
  obtain ⟨-, rfl⟩ := lineOf_some hl
  have hup : ((s.loaded img).derivedLine j).upstream = 0 := loaded_upstreamEnd hn
  obtain ⟨-, -, hsums⟩ := id hdrawn
  obtain ⟨hv, -⟩ := hsums _ rfl
  refine ⟨hup, ?_, rfl, ?_, hdrawn⟩
  · show segmentLeaving ((s.loaded img).upstreamEnd j) = .one
    rw [loaded_upstreamEnd hn]
    rfl
  · rw [hv, hup]
    congr 3
    funext k
    have hk : 0 < k.num := by cases k <;> decide
    rw [decide_eq_decide, ← hn]
    exact ⟨fun h => Nat.lt_succ_of_le h.2, fun h => ⟨hk, Nat.le_of_lt_succ h⟩⟩

end

end Sys2Proof.Machine

open Sys2Proof Sys2Proof.Machine

/-- Settles O3: the records as they are loaded, and the span of the tail derived from them. -/
theorem acceptedImageConfigures : Obligations.AcceptedImageConfigures := by
  unfold Obligations.AcceptedImageConfigures
  intro s image hc hlen ha
  obtain ⟨hconfig, hn, hline, hstale, hres, hagree, htrip, hscs, hsdo, hfree, hqueues, hwatches, hlast, hpending⟩ :=
    accept_same s image
  refine ⟨_, exec_imageRead_of_accepted hc hlen ha, hconfig, hn, hline, hscs, hsdo, hstale, hres, hagree, htrip,
    fun st hst => accept_configured ha hst, fun st hst => ?_, fun k hk => ?_, fun k hk => ?_, fun p => ?_,
    fun j => ⟨?_, accept_line_isSome_iff, fun l hl => accept_line hl⟩, ⟨hfree, queue_congr hqueues⟩, fun i => ?_, hlast,
    hpending⟩
  · rw [accept_station, loaded_station, if_neg (by omega)]
  · rw [accept_segment, loaded_segment, if_pos hk]
    exact ⟨rfl, rfl, rfl⟩
  · rw [accept_segment, loaded_segment, if_neg (by omega)]
  · rw [accept_port]
    exact ⟨rfl, rfl, rfl, rfl, rfl, rfl⟩
  · rw [accept_span]
  · rw [State.watch, hwatches]
    rfl

/-- Settles O4: the fields by their offsets, the checks by their bytes, and the refusal. -/
theorem refusedImageUnconfigures : Obligations.RefusedImageUnconfigures := by
  unfold Obligations.RefusedImageUnconfigures
  refine ⟨fun image f u16 u32 hlen hf hu16 hu32 => ?_, crc32_eq_bits, fun s image hc h => ?_⟩
  · obtain rfl : f = byteAt image := funext hf
    obtain rfl : u16 = wordAt image := funext hu16
    obtain rfl : u32 = longAt image := funext hu32
    obtain ⟨hn, hstale, hres, hagree, htrip⟩ := imageScalars_eq image
    exact ⟨hn, hstale, hres, hagree, htrip, fun k o ho => imageSettings_eq image ho, fun st b o ho => imageBank_eq image ho,
      imageActive_eq image, imageRate_eq image, imageAccepted_iff_bytes hlen⟩
  · refine ⟨_, exec_imageRead_of_refused hc h, ?_⟩
    have hrest := refuseImage_rest s
    have hport := refuseImage_port s
    generalize s.refuseImage = t at hrest hport
    rw [hrest]
    rw [hrest] at hport
    exact ⟨rfl, rfl, rfl, rfl, rfl, ⟨rfl, fun _ => rfl⟩, fun _ => rfl, fun _ => rfl, ⟨rfl, fun _ => rfl⟩, fun _ => rfl, rfl,
      hport⟩

end
